-- ==== Sys2Proof/Word.lean ====
section
/-! DEFINITION. The word types of the KV-240 and the plainest operations on them: bytes of frames, position
numbers, tables with one entry for each of a fixed number of things. -/

namespace Sys2Proof

/-- A character of a frame (R157: 8 data bits). -/
abbrev Byte := BitVec 8

/-- The two-byte value field of a Write Setting (R167). -/
abbrev Half := BitVec 16

/-- A string position. Position number n of the manual (1 to 24) is the index n - 1. -/
abbrev Pos := Fin 24

/-- What the 24 auxiliary contact inputs read when a command is taken: bit n - 1 is set when the contact of
position n reads closed (R104). -/
abbrev Contacts := BitVec 24

/-- The table whose entry for each index is `f` of that index. -/
def tabulate {α : Type} {n : Nat} (f : Fin n → α) : Vector α n :=
  ⟨⟨(List.finRange n).map f⟩, by simp⟩

/-- The position number of the manual, 1 to 24. -/
def Pos.number (p : Pos) : Nat := p.val + 1

/-- All 24 positions in ascending order. -/
def Pos.all : List Pos := List.finRange 24

/-- The position with a given number, when the number lies in 1 to 24. -/
def Pos.ofNumber (n : Nat) : Option Pos :=
  if h : 1 ≤ n ∧ n ≤ 24 then some ⟨n - 1, by omega⟩ else none

/-- Whether the auxiliary contact of a position reads closed. -/
def Contacts.closed (c : Contacts) (p : Pos) : Bool := c.getLsbD p.val

end Sys2Proof
end

