-- ==== Sys2Proof/Syntax.lean ====
section
/-! DEFINITION. The commands of the KV-240: one constructor of `Instr` for each row of spec/opcode_table.json,
with the operands the row's rule gives it, and the small types those operands are made of. -/

namespace Sys2Proof

/-- The three ports (Table 10-1). -/
inductive Port where
  | linkP
  | linkS
  | service
deriving DecidableEq, Repr

/-- The two multidrop links, which alone have a speed and a station address setting (R157). -/
inductive Link where
  | p
  | s
deriving DecidableEq, Repr

/-- The port of a link. -/
def Link.port : Link → Port
  | .p => .linkP
  | .s => .linkS

/-- The abnormal classes, which the Fault Qualifier counts (Table 4-2). -/
inductive Abnormal where
  | low
  | opened
  | reverse
  | over
deriving DecidableEq, Repr

/-- The notice kinds (R151), in the order of their codes (Table 10-7). -/
inductive NoticeKind where
  | fault
  | isolation
  | switch
  | hold
  | safety
  | leakage
  | walk
deriving DecidableEq, Repr

/-- The settings of the Fault Qualifier (Table 4-5). -/
inductive QualifierSetting where
  | debounceReverse
  | debounceOver
  | debounceOpen
  | debounceLow
  | residualDebounce
  | holdLimit
  | recheckInterval
  | trialCount
  | confirmCount
deriving DecidableEq, Repr

/-- The settings of the Switch Drive (Table 6-8). -/
inductive TimingSetting where
  | bypassSettle
  | relayTravel
  | nonOverlap
deriving DecidableEq, Repr

/-- The settings of the Leakage unit (R134). -/
inductive LeakageSetting where
  | trip
  | debounce
deriving DecidableEq, Repr

/-- The settings of the Locating Walk (R149). -/
inductive WalkSetting where
  | dropFraction
  | walkSettle
  | autoWalk
deriving DecidableEq, Repr

/-- The link settings (R157). -/
inductive LinkSetting where
  | station
  | speed
deriving DecidableEq, Repr

/-- The 8 conversions of one channel's burst, each the 12 bits the converter gives: signed for a string
channel, unsigned for the leakage channel (R15). -/
abbrev Samples := Vector (BitVec 12) 8

/-- The commands of the block. The request rows carry the port, the Station character and the Body of a frame
that passes the tests of R158. WRITE_SETTING carries any body; the rows for single settings carry the index and
value characters, their code being fixed by the row. An event whose handling reads the auxiliary contacts, the loop input or the key input carries what
the inputs read when it is taken. -/
inductive Instr where
  -- read requests (Chapter 10)
  | readStatus (port : Port) (station : Byte) (body : List Byte)
  | readPosition (port : Port) (station : Byte) (body : List Byte)
  | readMap (port : Port) (station : Byte) (body : List Byte)
  | readWalk (port : Port) (station : Byte) (body : List Byte)
  -- sweep requests (Chapter 2)
  | requestSweep (port : Port) (station : Byte) (body : List Byte)
  | pinSweep (port : Port) (station : Byte) (body : List Byte)
  | readSweep (port : Port) (station : Byte) (body : List Byte)
  | unpinSweep (port : Port) (station : Byte) (body : List Byte)
  -- hold, fault, switch and walk requests (Chapters 4, 5, 6, 8)
  | placeHold (port : Port) (station : Byte) (body : List Byte)
  | releaseHold (port : Port) (station : Byte) (body : List Byte)
  | clearFault (port : Port) (station : Byte) (body : List Byte)
  | clearSwitch (port : Port) (station : Byte) (body : List Byte) (contacts : Contacts)
  | startLocate (port : Port) (station : Byte) (body : List Byte)
  | fetchNotices (port : Port) (station : Byte) (body : List Byte)
  -- settings requests (Chapter 11)
  | readSetting (port : Port) (station : Byte) (body : List Byte)
  | writeSetting (port : Port) (station : Byte) (body : List Byte) (contacts : Contacts)
  | writeRole (port : Port) (station : Byte) (index : Byte) (value : Half) (contacts : Contacts)
  | writePeerGroup (port : Port) (station : Byte) (index : Byte) (value : Half)
  | writeExclusionFlag (port : Port) (station : Byte) (index : Byte) (value : Half)
  | writeBlendWeight (port : Port) (station : Byte) (index : Byte) (value : Half)
  | writeRoutineInterval (port : Port) (station : Byte) (index : Byte) (value : Half)
  | writeQualifierSetting (port : Port) (station : Byte) (which : QualifierSetting) (index : Byte) (value : Half)
  | writeLearningEnable (port : Port) (station : Byte) (index : Byte) (value : Half)
  | writeSwitchTiming (port : Port) (station : Byte) (which : TimingSetting) (index : Byte) (value : Half)
  | writeRestoreDelay (port : Port) (station : Byte) (index : Byte) (value : Half)
  | writeLeakageSetting (port : Port) (station : Byte) (which : LeakageSetting) (index : Byte) (value : Half)
  | writeWalkSetting (port : Port) (station : Byte) (which : WalkSetting) (index : Byte) (value : Half)
  | writeLinkSetting (port : Port) (station : Byte) (which : LinkSetting) (link : Link) (index : Byte) (value : Half)
  | writeSubscription (port : Port) (station : Byte) (subscriber : Port) (index : Byte) (value : Half)
  | saveSettings (port : Port) (station : Byte) (body : List Byte)
  | resetRatio (port : Port) (station : Byte) (body : List Byte)
  -- the frame receivers (R158)
  | frameDiscarded (port : Port) (station : Byte) (payload : List Byte) (check : Half)
  | lengthDiscard (port : Port) (station : Byte) (length : Byte)
  | characterGapTimeout (port : Port)
  | characterError (port : Port)
  | answerSent (port : Port)
  -- reset and the discrete lines (Chapters 5, 7, 11)
  | reset (contacts : Contacts) (loopClosed : Bool) (keyOn : Bool)
  | loopOpening
  | loopClosing
  | restoreTimerExpiry
  | keyChange (keyOn : Bool)
  -- sweeps (Chapters 2 and 3)
  | routineTimerExpiry
  | sweepStart
  | channelBurstComplete (samples : Samples)
  | sweepComplete (samples : Samples)
  -- the Fault Qualifier's share of a routine completion (Chapter 4)
  | declaration (position : Pos) (cls : Abnormal)
  | suspicionAbandoned (position : Pos)
  | recheckTimerExpiry (position : Pos)
  | trialSuccess (position : Pos)
  | reportedRecovery (position : Pos)
  | residualDebounceReached (position : Pos)
  -- the Leakage unit's share of a routine completion, and the walk (Chapter 8)
  | leakageAlarmEntry (leakage : BitVec 12)
  | leakageAlarmClear (leakage : BitVec 12)
  | settleTimerExpiry
  -- batches (Chapter 6)
  | batchStart
  | bypassSettleExpiry
  | coilPulseEnd
  | nonOverlapExpiry
  | batchCompletion (contacts : Contacts)
  -- the nonvolatile store (Chapters 3 and 11)
  | hourlyRatioMark
  | saveWriteStart
  | saveComplete (readBackMatches : Bool)
  | retainedWriteStart
  | retainedWriteComplete (readBackMatches : Bool)
  -- characters (R158) and a request that Table 10-2 does not name (R162)
  | characterReceived (port : Port) (char : Byte) (contacts : Contacts)
  | unknownRequestCode (port : Port) (station : Byte) (code : Byte) (body : List Byte)
deriving DecidableEq, Repr

end Sys2Proof
end

