-- ==== Sys2Proof/Config.lean ====
section
/-! DEFINITION. What the manual fixes by number and no setting changes, and the one value it leaves open. -/

namespace Sys2Proof.Config

/-- The last uptime of Table 1-3, and the last sweep number and image count (R20, R168). -/
def maxCount32 : Nat := 4294967295

/-- FREE VALUE. What the part shows as its uptime once it has run for more seconds than Table 1-3 gives the
uptime a range for; the manual does not say. It stands for every value (log entry 3). -/
opaque uptimePastEnd : Nat → BitVec 32

/-- A port pins at most 2 records, its pending requested sweep counted (R23, R30). -/
def pinLimit : Nat := 2

/-- A port's queue holds at most 32 notices (R151, R154). -/
def noticeLimit : Nat := 32

/-- A Fetch Notices takes at most 16 notices (R155). -/
def fetchLimit : Nat := 16

/-- Every coil pulse lasts 30 ms (R102). -/
def coilPulse : Nat := 30

/-- The open threshold is fixed at 900 per mille (R50). -/
def openThreshold : Int := 900

/-- A learned ratio of one, in units of 1/1024 (R52). -/
def unitRatio : Nat := 1024

/-- The seconds of uptime between two hourly ratio marks (R56). -/
def hour : Nat := 3600

/-- The character that begins a frame (R158, Table 10-6). -/
def lead : Byte := 0xA6

/-- The largest Length of a frame (R158). -/
def maxLength : Nat := 248

/-- A group has a reference when it has this many eligible members (R43). -/
def minEligible : Nat := 3

end Sys2Proof.Config
end

