-- ==== Sys2Proof/Machine/State.lean ====
section
/-! DEFINITION. The state of the KV-240 as plain data, block by block (Figure 1-1), the reasons a step can stop,
and the state after reset. -/

namespace Sys2Proof.Machine

/-! ### The Position Table and the settings (Chapters 1 and 11) -/

/-- What is fitted at a position (Table 1-5). -/
inductive Role where
  | switched
  | monitored
  | unused
deriving DecidableEq, Repr

/-- The link speeds (R157). -/
inductive LinkSpeed where
  | baud9600
  | baud19200
  | baud38400
deriving DecidableEq, Repr

/-- A port's choice of the edges of one notice kind (R153). -/
inductive Subscription where
  | off
  | set
  | clear
  | both
deriving DecidableEq, Repr

/-- One value for each of the three ports. -/
structure PerPort (α : Type) where
  linkP : α
  linkS : α
  service : α
deriving DecidableEq, Repr

/-- One value for each of the seven notice kinds. -/
structure PerKind (α : Type) where
  fault : α
  isolation : α
  switch : α
  hold : α
  safety : α
  leakage : α
  walk : α
deriving DecidableEq, Repr

/-- Every setting of Table 11-1. The part acts on one of these, the working copy; a save stores another. -/
structure Settings where
  routineInterval : Nat
  lightGate : Nat
  lowThreshold : Nat
  reverseThreshold : Nat
  overThreshold : Nat
  residualThreshold : Nat
  debounceReverse : Nat
  debounceOver : Nat
  debounceOpen : Nat
  debounceLow : Nat
  residualDebounce : Nat
  holdLimit : Nat
  recheckInterval : Nat
  trialCount : Nat
  confirmCount : Nat
  learningEnable : Bool
  bypassSettle : Nat
  relayTravel : Nat
  nonOverlap : Nat
  leakageTrip : Nat
  leakageDebounce : Nat
  dropFraction : Nat
  walkSettle : Nat
  autoWalk : Bool
  restoreDelay : Nat
  stationP : Nat
  stationS : Nat
  speedP : LinkSpeed
  speedS : LinkSpeed
  role : Vector Role 24
  peerGroup : Vector (Fin 7) 24
  excluded : Vector Bool 24
  blendWeight : Vector (Fin 4) 6
  subscription : PerPort (PerKind Subscription)
deriving DecidableEq, Repr

/-- The defaults of Table 11-1. -/
def Settings.defaults : Settings where
  routineInterval := 2
  lightGate := 50
  lowThreshold := 250
  reverseThreshold := 50
  overThreshold := 1500
  residualThreshold := 30
  debounceReverse := 2
  debounceOver := 2
  debounceOpen := 4
  debounceLow := 30
  residualDebounce := 2
  holdLimit := 60
  recheckInterval := 900
  trialCount := 2
  confirmCount := 15
  learningEnable := true
  bypassSettle := 5
  relayTravel := 40
  nonOverlap := 50
  leakageTrip := 300
  leakageDebounce := 3
  dropFraction := 500
  walkSettle := 3
  autoWalk := true
  restoreDelay := 30
  stationP := 1
  stationS := 1
  speedP := .baud19200
  speedS := .baud19200
  role := Vector.replicate 24 .switched
  peerGroup := Vector.replicate 24 1
  excluded := Vector.replicate 24 false
  blendWeight := Vector.replicate 6 2
  subscription :=
    ⟨⟨.off, .both, .off, .off, .both, .off, .off⟩,
     ⟨.both, .both, .both, .both, .both, .both, .both⟩,
     ⟨.both, .both, .both, .both, .both, .both, .both⟩⟩

/-! ### One position: qualifier, isolation record, switch, ratio (Chapters 3 to 6) -/

/-- The states of a qualifier record (Table 4-1). -/
inductive QualState where
  | clear
  | suspect
  | declared
  | waiting
  | recheck
  | latched
  | reported
deriving DecidableEq, Repr

/-- A fault reason: the class that declared, or GROUND (R59). -/
inductive Reason where
  | fault (cls : Abnormal)
  | ground
deriving DecidableEq, Repr

/-- The qualifier record of a position (Table 4-1). -/
structure QualRecord where
  state : QualState
  cls : Option Abnormal
  count : Nat
  holdCount : Nat
  reason : Option Reason
  timer : Option Nat
  confirm : Option Nat
  trials : Nat
deriving DecidableEq, Repr

/-- The classes of the assessment (Table 1-1, Table 10-7). -/
inductive Class where
  | normal
  | abnormal (cls : Abnormal)
  | dim
  | noRef
  | isolated
  | residual
  | unsettled
  | excluded
  | unused
deriving DecidableEq, Repr

/-- The switch conditions (Table 6-1). -/
inductive Condition where
  | closed
  | opened
  | moving
  | jammedClosed
  | jammedOpen
  | conductingOpen
  | absent
deriving DecidableEq, Repr

/-- The position a switch should reach (R84). -/
inductive Target where
  | closed
  | opened
deriving DecidableEq, Repr

/-- The holders (R83). -/
inductive Holder where
  | fault
  | plant
  | site
  | lockout
  | safety
  | locate
deriving DecidableEq, Repr

/-- A hold set: for each holder, whether it stands (R83). -/
structure HoldSet where
  fault : Bool
  plant : Bool
  site : Bool
  lockout : Bool
  safety : Bool
  locate : Bool
deriving DecidableEq, Repr

/-- What the blocks keep for one position: the qualifier record and residual counter, the isolation record, the
switch condition and bypass gate output, the learned ratio and last class. -/
structure PosState where
  qual : QualRecord
  residual : Nat
  holds : HoldSet
  reason : Option Reason
  lastChange : Nat
  condition : Condition
  gate : Bool
  ratio : Nat
  lastClass : Option Class
deriving DecidableEq, Repr

/-! ### The Sweep Sequencer (Chapter 2) -/

/-- The origins of a sweep (Table 2-2). -/
inductive Origin where
  | routine
  | plant
  | site
  | service
  | locate
deriving DecidableEq, Repr

/-- The saturation flag of a channel (R17). -/
inductive Saturation where
  | none
  | plus
  | minus
deriving DecidableEq, Repr

/-- A position's entry in a sweep record (Table 2-4). -/
structure PosEntry where
  mean : Int
  saturation : Saturation
  condition : Condition
  cls : Option Class
  expected : Option Int
  deviation : Option Int
deriving DecidableEq, Repr

/-- A group's entry in a sweep record (Table 2-4, R45). -/
structure GroupEntry where
  members : Nat
  eligible : Nat
  median : Option Int
  dim : Bool
deriving DecidableEq, Repr

/-- A record that holds a sweep (Table 2-4). The position entries present so far stand in channel order, so their
number is the number of string bursts completed; the group entries are present from the assessment. -/
structure SweepRecord where
  number : Nat
  origin : Origin
  startUptime : Nat
  leakage : Option Nat
  assessed : Bool
  entries : List PosEntry
  groups : List GroupEntry
deriving DecidableEq, Repr

/-- The sweep that holds the converter: its slot, what the record will keep as the condition of the position whose
burst runs (R16), and, for a LOCATE sweep, whether the walk that asked for it still runs (R25). -/
structure Running where
  slot : Fin 8
  burstCondition : Condition
  forWalk : Bool
deriving DecidableEq, Repr

/-- The Sweep Sequencer and the Sweep Record Ring. A free slot is `none`. `requested` lists the ports whose
requested sweep waits, the earliest accepted first. `routineDue` is the uptime of the routine timer's next
expiry. -/
structure Sequencer where
  slots : Vector (Option SweepRecord) 8
  fillOrder : List (Fin 8)
  running : Option Running
  locateWaiting : Bool
  routineWaiting : Bool
  requested : List Port
  nextNumber : Nat
  lastNumber : Nat
  routineDue : Nat
deriving DecidableEq, Repr

/-! ### The Switch Drive (Chapter 6) -/

/-- An order of one section of the Actuation Queue (R107); the section gives the target. -/
structure Order where
  position : Pos
  since : Nat
deriving DecidableEq, Repr

/-- An order taken into a batch, with the condition that stood when the batch was formed (R120). -/
structure BatchOrder where
  position : Pos
  target : Target
  before : Condition
deriving DecidableEq, Repr

/-- A coil pulse of a batch on one direction: no position needs it, or it has yet to begin, is applied, or has
ended (Table 6-3). -/
inductive Pulse where
  | none
  | due
  | on
  | done
deriving DecidableEq, Repr

/-- The batch in flight: its orders, when it started, the timing settings it started with (R110), and how far the
hybrid sequence has come. -/
structure Batch where
  orders : List BatchOrder
  start : Nat
  bypassSettle : Nat
  relayTravel : Nat
  nonOverlap : Nat
  settled : Bool
  resetPulse : Pulse
  setPulse : Pulse
deriving DecidableEq, Repr

/-- The Actuation Queue and the batch in flight. -/
structure Drive where
  openQ : List Order
  closeQ : List Order
  batch : Option Batch
deriving DecidableEq, Repr

/-! ### Safety Loop, leakage and walk (Chapters 7 and 8) -/

/-- The safety states (Table 7-1). -/
inductive SafetyState where
  | armed
  | tripped
  | restoring
deriving DecidableEq, Repr

/-- The Safety Loop unit: its state, when the restore timer expires (milliseconds since reset), and the loop input
as it last settled (R122). -/
structure Safety where
  state : SafetyState
  restoreDue : Option Nat
  loopClosed : Bool
deriving DecidableEq, Repr

/-- The leakage alarm states (R131). -/
inductive AlarmState where
  | quiet
  | rising
  | alarm
  | falling
deriving DecidableEq, Repr

/-- The Leakage unit (R131). -/
structure Leakage where
  state : AlarmState
  count : Nat
  last : Nat
deriving DecidableEq, Repr

/-- The walk states (Table 8-2). -/
inductive WalkState where
  | idle
  | baseline
  | opening
  | settling
  | measuring
  | reclosing
deriving DecidableEq, Repr

/-- The walk origins (Table 8-2). -/
inductive WalkOrigin where
  | auto
  | site
  | service
deriving DecidableEq, Repr

/-- The walk outcomes (R144). -/
inductive WalkOutcome where
  | found
  | notFound
  | cleared
  | abandoned
deriving DecidableEq, Repr

/-- The step results (Table 8-2). -/
inductive StepResult where
  | confirmed
  | noDrop
  | skippedHeld
  | skippedJammed
deriving DecidableEq, Repr

/-- A step entry of the walk record (Table 8-2). -/
structure StepEntry where
  position : Pos
  baseline : Nat
  measured : Option Nat
  result : StepResult
deriving DecidableEq, Repr

/-- The walk record (Table 8-2), with the baseline B of the step under way (R139) and the time at which the settle
timer expires (R141, milliseconds since reset). -/
structure Walk where
  origin : Option WalkOrigin
  startUptime : Option Nat
  state : WalkState
  candidates : List Pos
  index : Nat
  entries : List StepEntry
  outcome : Option WalkOutcome
  found : Option Pos
  baseline : Option Nat
  settleDue : Option Nat
deriving DecidableEq, Repr

/-! ### Notices and ports (Chapters 9 and 10) -/

/-- The edge of a notice (R151). -/
inductive Edge where
  | set
  | clear
deriving DecidableEq, Repr

/-- The detail of a notice (Table 9-1). -/
inductive Detail where
  | absent
  | reason (r : Reason)
  | condition (c : Condition)
  | holder (h : Holder)
  | outcome (o : WalkOutcome)
deriving DecidableEq, Repr

/-- A notice (R151); its position is absent where the manual gives position 0. -/
structure Notice where
  kind : NoticeKind
  edge : Edge
  position : Option Pos
  detail : Detail
  sweep : Nat
  uptime : Nat
deriving DecidableEq, Repr

/-- A port's frame receiver (R158). In RECEIVING it holds the characters taken since Lead. -/
inductive Receiver where
  | idle
  | receiving (got : List Byte)
  | answering
deriving DecidableEq, Repr

/-- What is kept for one port: the receiver, the answer frame being sent, the station address and speed the port
runs at (R157), its pins in the order they were placed (R163), its last requested sweep, its notice queue and its
overflow flag. The Service Port's station and speed are those it always has: it accepts any station, so its
station is never read. -/
structure PortState where
  receiver : Receiver
  answer : List Byte
  station : Nat
  speed : LinkSpeed
  pins : List Nat
  lastRequested : Nat
  notices : List Notice
  overflow : Bool
deriving DecidableEq, Repr

/-! ### The Retained Store (Chapter 11) -/

/-- What a retained image holds (R169). -/
structure Retained where
  lockouts : Vector Bool 24
  latched : Vector (Option Reason) 24
  ratios : Vector Nat 24
deriving DecidableEq, Repr

/-- One copy of an image whose check is good: its content and its count (R168). -/
structure Copy (α : Type) where
  content : α
  count : Nat
deriving DecidableEq, Repr

/-- An image kept in two copies. A copy whose check is not good is `none` (log entry 19). -/
structure Image (α : Type) where
  copy1 : Option (Copy α)
  copy2 : Option (Copy α)
deriving DecidableEq, Repr

/-- The two copies of an image. -/
inductive CopyName where
  | copy1
  | copy2
deriving DecidableEq, Repr

/-- A write under way: the copy it writes and what it writes there. -/
inductive Writing where
  | save (copy : CopyName) (content : Copy Settings)
  | retained (copy : CopyName) (content : Copy Retained)
deriving DecidableEq, Repr

/-- A write that waits for the store (R170). A save carries its snapshot. -/
inductive Waiting where
  | save (snapshot : Settings)
  | retained
deriving DecidableEq, Repr

/-- The save outcome shown by Read Status (R163). -/
inductive SaveOutcome where
  | none
  | ok
  | failed
deriving DecidableEq, Repr

/-- The Retained Store: both images, the write under way, the writes that wait in the order they began waiting, the
save outcome, the settings source and retained valid flags of Read Status, and the ratio snapshot (R56). -/
structure Store where
  settingsImage : Image Settings
  retainedImage : Image Retained
  writing : Option Writing
  waiting : List Waiting
  saveOutcome : SaveOutcome
  fromImage : Bool
  retainedValid : Bool
  ratioSnapshot : Vector Nat 24
deriving DecidableEq, Repr

/-! ### The whole part -/

/-- The state of the KV-240. `pending` is the queue of commands; `now` is the real time since reset in
milliseconds, from which the uptime is read; `nextHour` is the uptime of the next hourly ratio mark (R56); `key`
is the Lockout Key as it last settled, true for ON (R94). -/
structure State where
  pending : List Instr
  now : Nat
  settings : Settings
  positions : Vector PosState 24
  seq : Sequencer
  drive : Drive
  safety : Safety
  leakage : Leakage
  walk : Walk
  ports : PerPort PortState
  store : Store
  nextHour : Nat
  key : Bool
deriving DecidableEq, Repr

/-- The faults of a step. The manual names no event on which the part stops, so there is none, and no meaning raises
one. Safe: nothing is claimed of a stopped part. -/
inductive Fault
deriving DecidableEq, Repr

/-- The refusals of a step. -/
inductive Refusal where
  /-- Raised by the dispatch alone, for a command without a meaning; no command is without one. Safe. -/
  | notModelled (mnemonic : String)
deriving DecidableEq, Repr

/-! ### Reset -/

/-- The hold set with no holder. -/
def HoldSet.empty : HoldSet := ⟨false, false, false, false, false, false⟩

/-- A CLEAR qualifier record with the given trials remaining (R60). -/
def QualRecord.cleared (trials : Nat) : QualRecord where
  state := .clear
  cls := none
  count := 0
  holdCount := 0
  reason := none
  timer := none
  confirm := none
  trials := trials

/-- The Sweep Sequencer after reset (R36). -/
def Sequencer.afterReset (interval : Nat) : Sequencer where
  slots := Vector.replicate 8 none
  fillOrder := []
  running := none
  locateWaiting := false
  routineWaiting := false
  requested := []
  nextNumber := 1
  lastNumber := 0
  routineDue := interval

/-- The Actuation Queue after reset, before any target is taken (R106). -/
def Drive.afterReset : Drive := ⟨[], [], none⟩

/-- The Leakage unit after reset (R131). -/
def Leakage.afterReset : Leakage := ⟨.quiet, 0, 0⟩

/-- The walk record after reset (R136). -/
def Walk.afterReset : Walk where
  origin := none
  startUptime := none
  state := .idle
  candidates := []
  index := 0
  entries := []
  outcome := none
  found := none
  baseline := none
  settleDue := none

/-- A port after reset, running at the given station address and speed (R36, R151, R157). -/
def PortState.afterReset (station : Nat) (speed : LinkSpeed) : PortState where
  receiver := .idle
  answer := []
  station := station
  speed := speed
  pins := []
  lastRequested := 0
  notices := []
  overflow := false

/-- A position right after the start-up sequence has run on blank images with every contact reading open: SWITCHED,
OPEN, held by SAFETY alone (R60, R83, R97, R103, R106). -/
def PosState.afterReset : PosState where
  qual := QualRecord.cleared 2
  residual := 0
  holds := { HoldSet.empty with safety := true }
  reason := none
  lastChange := 0
  condition := .opened
  gate := false
  ratio := 1024
  lastClass := none

/-- The machine right after the start-up sequence of R172. The manual states no content of the nonvolatile store
before its first write and no level of the inputs: the copies are blank, every auxiliary contact reads open, the
loop reads closed and the key is OFF (log entry 9). -/
def State.reset : State where
  pending := []
  now := 0
  settings := Settings.defaults
  positions := Vector.replicate 24 PosState.afterReset
  seq := Sequencer.afterReset 2
  drive := Drive.afterReset
  safety := ⟨.restoring, some 30000, true⟩
  leakage := Leakage.afterReset
  walk := Walk.afterReset
  ports :=
    ⟨PortState.afterReset 1 .baud19200, PortState.afterReset 1 .baud19200, PortState.afterReset 0 .baud38400⟩
  store :=
    { settingsImage := ⟨none, none⟩
      retainedImage := ⟨none, none⟩
      writing := none
      waiting := []
      saveOutcome := .none
      fromImage := false
      retainedValid := false
      ratioSnapshot := Vector.replicate 24 1024 }
  nextHour := 3600
  key := false

end Sys2Proof.Machine
end

