-- ==== Sys2Proof/Machine/Flags.lean ====
section
/-! DEFINITION. The number rules of the manual: rounding and clamping (0.6), means and saturation flags (R17, R18),
ratios, expected currents and deviations (R47 to R49), the learning step (R54), the leakage values (R132, R134,
R142) and the counts that wrap (R20, R168). Quantities are whole numbers, computed exactly. -/

namespace Sys2Proof.Machine

/-- "Clamped to a range" (0.6). -/
def clamp (lo hi v : Int) : Int := if v < lo then lo else if hi < v then hi else v

/-- A numeric setting clamped to its range (R167). -/
def clampNat (lo hi v : Nat) : Nat := if v < lo then lo else if hi < v then hi else v

/-- `n / d` rounded to nearest, ties upward (0.6), for a positive `d`. -/
def roundUp (n d : Int) : Int := (2 * n + d) / (2 * d)

/-- `n / d` rounded to nearest, ties away from zero (0.6), for a positive `d`. -/
def roundAway (n d : Int) : Int := if 0 ≤ n then (2 * n + d) / (2 * d) else -((2 * (-n) + d) / (2 * d))

/-- The number after `n` among 1 to 4,294,967,295, which follows itself to 1 (R20, R168). -/
def nextCount (n : Nat) : Nat := if n < Config.maxCount32 then n + 1 else 1

/-! ### Means (R17, R18) -/

/-- The mean I of a string channel's samples (R17). -/
def stringMean (v : Samples) : Int := roundAway ((v.toList.map BitVec.toInt).sum) 8

/-- The saturation flag of a string channel's samples (R17). -/
def saturationOf (v : Samples) : Saturation :=
  if v.toList.any (fun x => x.toInt = 2047) then .plus
  else if v.toList.any (fun x => x.toInt = -2048) then .minus
  else .none

/-- The leakage mean L of the leakage channel's samples (R18). -/
def leakageMean (v : Samples) : Nat := ((2 * (v.toList.map BitVec.toNat).sum + 8) / 16)

/-! ### Ratios, expected current, deviation (R47 to R50) -/

/-- The effective ratio e of a learned ratio at a blend weight (R47). -/
def effectiveRatio (w : Nat) (r : Nat) : Int := roundUp ((w : Int) * r + (3 - (w : Int)) * 1024) 3

/-- The expected current X (R48). -/
def expectedCurrent (m e : Int) : Int := min (roundUp (m * e) 1024) 2047

/-- The deviation D (R49). -/
def deviation (i x : Int) : Int := clamp (-1000) 999 (roundAway (1000 * (i - x)) x)

/-- The relative class of a deviation at a low threshold (R50). -/
def relativeClass (low : Nat) (d : Int) : Class :=
  if d ≤ -Config.openThreshold then .abnormal .opened
  else if d ≤ -(low : Int) then .abnormal .low
  else .normal

/-! ### Learning (R54) -/

/-- The observed ratio q (R54). -/
def observedRatio (i m : Int) : Int := clamp 256 1280 (roundUp (1024 * i) m)

/-- The new learned ratio after a learning step from `r` toward `q` (R54). -/
def learnedRatio (r : Nat) (q : Int) : Nat := (clamp 256 1280 ((r : Int) + Int.tdiv (q - r) 32)).toNat

/-! ### The group reference (R43, R44) -/

/-- The lower median of the eligible means, when there are at least 3 of them (R43). -/
def lowerMedian (means : List Int) : Option Int :=
  if means.length < Config.minEligible then none
  else (means.insertionSort (fun a b => a ≤ b))[(means.length - 1) / 2]?

/-! ### Leakage (R132, R134, R142) -/

/-- The leakage clear value of a trip value (R134). -/
def clearValue (trip : Nat) : Nat := trip * 3 / 4

/-- The drop test of a walk (R142). -/
def dropTest (baseline measured dropFraction : Nat) : Bool :=
  decide (measured * 1000 ≤ baseline * (1000 - dropFraction))

end Sys2Proof.Machine
end

