-- ==== Sys2Proof/Machine/Operands.lean ====
section
/-! DEFINITION. The operand forms: bytes, position masks and hold-set bytes (R166), the codes of enumerated fields
(Table 10-7), the settings by code and index with their ranges (Table 11-1), the request codes and permissions
(Table 10-2), the statuses, and the frame with its check (R159, Table 10-6). -/

namespace Sys2Proof.Machine

/-! ### Fields for each port, kind, holder -/

/-- The value of a port. -/
def PerPort.get {α : Type} (t : PerPort α) : Port → α
  | .linkP => t.linkP
  | .linkS => t.linkS
  | .service => t.service

/-- The values with that of one port replaced. -/
def PerPort.set {α : Type} (t : PerPort α) (q : Port) (v : α) : PerPort α :=
  match q with
  | .linkP => { t with linkP := v }
  | .linkS => { t with linkS := v }
  | .service => { t with service := v }

/-- The value of a notice kind. -/
def PerKind.get {α : Type} (t : PerKind α) : NoticeKind → α
  | .fault => t.fault
  | .isolation => t.isolation
  | .switch => t.switch
  | .hold => t.hold
  | .safety => t.safety
  | .leakage => t.leakage
  | .walk => t.walk

/-- The values with that of one notice kind replaced. -/
def PerKind.set {α : Type} (t : PerKind α) (k : NoticeKind) (v : α) : PerKind α :=
  match k with
  | .fault => { t with fault := v }
  | .isolation => { t with isolation := v }
  | .switch => { t with switch := v }
  | .hold => { t with hold := v }
  | .safety => { t with safety := v }
  | .leakage => { t with leakage := v }
  | .walk => { t with walk := v }

/-- Whether a holder stands in a hold set. -/
def HoldSet.has (hs : HoldSet) : Holder → Bool
  | .fault => hs.fault
  | .plant => hs.plant
  | .site => hs.site
  | .lockout => hs.lockout
  | .safety => hs.safety
  | .locate => hs.locate

/-- The hold set in which a holder stands (`true`) or does not stand (`false`), the others as they were: an
insertion or a removal (R85). -/
def HoldSet.put (hs : HoldSet) (h : Holder) (b : Bool) : HoldSet :=
  match h with
  | .fault => { hs with fault := b }
  | .plant => { hs with plant := b }
  | .site => { hs with site := b }
  | .lockout => { hs with lockout := b }
  | .safety => { hs with safety := b }
  | .locate => { hs with locate := b }

/-- The target of a hold set: OPEN when it has a member, CLOSED when it is empty (R84). -/
def HoldSet.target (hs : HoldSet) : Target := if hs = HoldSet.empty then .closed else .opened

/-- The condition a target asks for (R108). -/
def Target.condition : Target → Condition
  | .closed => .closed
  | .opened => .opened

/-- The holder of a port (R90). -/
def portHolder : Port → Holder
  | .linkP => .plant
  | .linkS => .site
  | .service => .lockout

/-- The origin of the sweeps a port requests (Table 2-2). -/
def portOrigin : Port → Origin
  | .linkP => .plant
  | .linkS => .site
  | .service => .service

/-- The port whose requested sweep has an origin. -/
def Origin.port : Origin → Option Port
  | .plant => some .linkP
  | .site => some .linkS
  | .service => some .service
  | _ => none

/-- The switch faults (R105). -/
def Condition.isFault : Condition → Bool
  | .jammedClosed => true
  | .jammedOpen => true
  | .conductingOpen => true
  | _ => false

/-! ### Bytes -/

/-- A number as one byte. -/
def byte (n : Nat) : Byte := BitVec.ofNat 8 n

/-- A number as 2 bytes, high byte first. -/
def bytes2 (n : Nat) : List Byte := [byte (n / 256), byte n]

/-- A number as 3 bytes, high byte first. -/
def bytes3 (n : Nat) : List Byte := [byte (n / 65536), byte (n / 256), byte n]

/-- A number as 4 bytes, high byte first. -/
def bytes4 (n : Nat) : List Byte := [byte (n / 16777216), byte (n / 65536), byte (n / 256), byte n]

/-- A signed number as 2 bytes in two's complement, high byte first. -/
def signed2 (i : Int) : List Byte := bytes2 (BitVec.ofInt 16 i).toNat

/-- The number of a run of bytes, high byte first. -/
def ofBytes (bs : List Byte) : Nat := bs.foldl (fun n b => n * 256 + b.toNat) 0

/-- A flag as a byte. -/
def flagByte (b : Bool) : Byte := if b then 1 else 0

/-! ### Position masks and hold sets (R166) -/

/-- The number whose bit n - 1 is set for each position n of a set. -/
def maskOf (f : Pos → Bool) : Nat := (Pos.all.map (fun p => if f p then 2 ^ p.val else 0)).sum

/-- A position mask: positions 17 to 24, then 9 to 16, then 1 to 8, each byte with its lowest position in the least
significant bit (R166). -/
def maskBytes (f : Pos → Bool) : List Byte := bytes3 (maskOf f)

/-- The positions a 3-byte mask names, ascending. -/
def maskPositions (body : List Byte) : List Pos := Pos.all.filter (fun p => (ofBytes body).testBit p.val)

/-- A hold set as a byte: bits 0 to 5 for FAULT, PLANT, SITE, LOCKOUT, SAFETY and LOCATE (R166). -/
def HoldSet.code (hs : HoldSet) : Byte :=
  byte ((if hs.fault then 1 else 0) + (if hs.plant then 2 else 0) + (if hs.site then 4 else 0)
    + (if hs.lockout then 8 else 0) + (if hs.safety then 16 else 0) + (if hs.locate then 32 else 0))

/-! ### Codes of enumerated fields (Table 10-7) -/

/-- Role codes. -/
def Role.code : Role → Nat
  | .switched => 1
  | .monitored => 2
  | .unused => 3

/-- The role of a code. -/
def Role.ofCode : Nat → Option Role
  | 1 => some .switched
  | 2 => some .monitored
  | 3 => some .unused
  | _ => none

/-- Condition codes. -/
def Condition.code : Condition → Nat
  | .closed => 1
  | .opened => 2
  | .moving => 3
  | .jammedClosed => 4
  | .jammedOpen => 5
  | .conductingOpen => 6
  | .absent => 7

/-- The codes of the abnormal classes as a class. -/
def abnormalCode : Abnormal → Nat
  | .low => 2
  | .opened => 3
  | .reverse => 4
  | .over => 5

/-- Class codes. -/
def Class.code : Class → Nat
  | .normal => 1
  | .abnormal c => abnormalCode c
  | .dim => 6
  | .noRef => 7
  | .isolated => 8
  | .residual => 9
  | .unsettled => 10
  | .excluded => 11
  | .unused => 12

/-- Fault reason codes. -/
def Reason.code : Reason → Nat
  | .fault .low => 1
  | .fault .opened => 2
  | .fault .reverse => 3
  | .fault .over => 4
  | .ground => 5

/-- Holder codes. -/
def Holder.code : Holder → Nat
  | .fault => 1
  | .plant => 2
  | .site => 3
  | .lockout => 4
  | .safety => 5
  | .locate => 6

/-- Qualifier state codes. -/
def QualState.code : QualState → Nat
  | .clear => 1
  | .suspect => 2
  | .declared => 3
  | .waiting => 4
  | .recheck => 5
  | .latched => 6
  | .reported => 7

/-- Saturation flag codes. -/
def Saturation.code : Saturation → Nat
  | .none => 0
  | .plus => 1
  | .minus => 2

/-- Sweep origin codes. -/
def Origin.code : Origin → Nat
  | .routine => 1
  | .plant => 2
  | .site => 3
  | .service => 4
  | .locate => 5

/-- Safety state codes. -/
def SafetyState.code : SafetyState → Nat
  | .armed => 1
  | .tripped => 2
  | .restoring => 3

/-- Leakage alarm state codes. -/
def AlarmState.code : AlarmState → Nat
  | .quiet => 1
  | .rising => 2
  | .alarm => 3
  | .falling => 4

/-- Walk state codes. -/
def WalkState.code : WalkState → Nat
  | .idle => 1
  | .baseline => 2
  | .opening => 3
  | .settling => 4
  | .measuring => 5
  | .reclosing => 6

/-- Walk origin codes. -/
def WalkOrigin.code : WalkOrigin → Nat
  | .auto => 1
  | .site => 2
  | .service => 3

/-- Walk outcome codes. -/
def WalkOutcome.code : WalkOutcome → Nat
  | .found => 1
  | .notFound => 2
  | .cleared => 3
  | .abandoned => 4

/-- Step result codes. -/
def StepResult.code : StepResult → Nat
  | .confirmed => 1
  | .noDrop => 2
  | .skippedHeld => 3
  | .skippedJammed => 4

/-- Notice kind codes. -/
def kindCode : NoticeKind → Nat
  | .fault => 1
  | .isolation => 2
  | .switch => 3
  | .hold => 4
  | .safety => 5
  | .leakage => 6
  | .walk => 7

/-- The notice kind of a code. -/
def kindOfCode : Nat → Option NoticeKind
  | 1 => some .fault
  | 2 => some .isolation
  | 3 => some .switch
  | 4 => some .hold
  | 5 => some .safety
  | 6 => some .leakage
  | 7 => some .walk
  | _ => none

/-- Notice edge codes. -/
def Edge.code : Edge → Nat
  | .set => 1
  | .clear => 2

/-- Notice detail codes; an absent detail is sent as 0 (Table 9-2). -/
def Detail.code : Detail → Nat
  | .absent => 0
  | .reason r => r.code
  | .condition c => c.code
  | .holder h => h.code
  | .outcome o => o.code

/-- Subscription codes (Table 11-1). -/
def Subscription.code : Subscription → Nat
  | .off => 0
  | .set => 1
  | .clear => 2
  | .both => 3

/-- The subscription of a code. -/
def Subscription.ofCode : Nat → Option Subscription
  | 0 => some .off
  | 1 => some .set
  | 2 => some .clear
  | 3 => some .both
  | _ => none

/-- Link speeds as their setting values (Table 11-1). -/
def LinkSpeed.baud : LinkSpeed → Nat
  | .baud9600 => 9600
  | .baud19200 => 19200
  | .baud38400 => 38400

/-- The link speed of a setting value. -/
def LinkSpeed.ofBaud : Nat → Option LinkSpeed
  | 9600 => some .baud9600
  | 19200 => some .baud19200
  | 38400 => some .baud38400
  | _ => none

/-- Save outcome codes (Table 10-3). -/
def SaveOutcome.code : SaveOutcome → Nat
  | .none => 0
  | .ok => 1
  | .failed => 2

/-! ### Settings (Table 11-1) -/

/-- A numeric setting with index 0. -/
inductive Number where
  | routineInterval
  | lightGate
  | lowThreshold
  | reverseThreshold
  | overThreshold
  | residualThreshold
  | debounceReverse
  | debounceOver
  | debounceOpen
  | debounceLow
  | residualDebounce
  | holdLimit
  | recheckInterval
  | trialCount
  | confirmCount
  | bypassSettle
  | relayTravel
  | nonOverlap
  | leakageTrip
  | leakageDebounce
  | dropFraction
  | walkSettle
  | restoreDelay
  | stationP
  | stationS
deriving DecidableEq, Repr

/-- A setting named by its code and index. -/
inductive Setting where
  | number (n : Number)
  | learningEnable
  | autoWalk
  | speed (l : Link)
  | role (p : Pos)
  | peerGroup (p : Pos)
  | exclusion (p : Pos)
  | blendWeight (g : Fin 6)
  | subscription (q : Port) (k : NoticeKind)
deriving DecidableEq, Repr

/-- A setting with index 0. -/
def atIndexZero (index : Nat) (x : Setting) : Option Setting := if index = 0 then some x else none

/-- The setting that a code and an index name; none for a code outside Table 11-1 or an index outside the range its
code takes (R167). -/
def Setting.ofCode (code index : Nat) : Option Setting :=
  match code with
  | 0x01 => atIndexZero index (.number .routineInterval)
  | 0x02 => atIndexZero index (.number .lightGate)
  | 0x03 => atIndexZero index (.number .lowThreshold)
  | 0x04 => atIndexZero index (.number .reverseThreshold)
  | 0x05 => atIndexZero index (.number .overThreshold)
  | 0x06 => atIndexZero index (.number .residualThreshold)
  | 0x07 => atIndexZero index (.number .debounceReverse)
  | 0x08 => atIndexZero index (.number .debounceOver)
  | 0x09 => atIndexZero index (.number .debounceOpen)
  | 0x0A => atIndexZero index (.number .debounceLow)
  | 0x0B => atIndexZero index (.number .residualDebounce)
  | 0x0C => atIndexZero index (.number .holdLimit)
  | 0x0D => atIndexZero index (.number .recheckInterval)
  | 0x0E => atIndexZero index (.number .trialCount)
  | 0x0F => atIndexZero index (.number .confirmCount)
  | 0x10 => atIndexZero index .learningEnable
  | 0x11 => atIndexZero index (.number .bypassSettle)
  | 0x12 => atIndexZero index (.number .relayTravel)
  | 0x13 => atIndexZero index (.number .nonOverlap)
  | 0x14 => atIndexZero index (.number .leakageTrip)
  | 0x15 => atIndexZero index (.number .leakageDebounce)
  | 0x16 => atIndexZero index (.number .dropFraction)
  | 0x17 => atIndexZero index (.number .walkSettle)
  | 0x18 => atIndexZero index .autoWalk
  | 0x19 => atIndexZero index (.number .restoreDelay)
  | 0x1A => atIndexZero index (.number .stationP)
  | 0x1B => atIndexZero index (.number .stationS)
  | 0x1C => atIndexZero index (.speed .p)
  | 0x1D => atIndexZero index (.speed .s)
  | 0x20 => (Pos.ofNumber index).map .role
  | 0x21 => (Pos.ofNumber index).map .peerGroup
  | 0x22 => (Pos.ofNumber index).map .exclusion
  | 0x28 => if h : 1 ≤ index ∧ index ≤ 6 then some (.blendWeight ⟨index - 1, by omega⟩) else none
  | 0x30 => (kindOfCode index).map (.subscription .linkP)
  | 0x31 => (kindOfCode index).map (.subscription .linkS)
  | 0x32 => (kindOfCode index).map (.subscription .service)
  | _ => none

/-- The code of a Fault Qualifier setting. -/
def qualifierCode : QualifierSetting → Nat
  | .debounceReverse => 0x07
  | .debounceOver => 0x08
  | .debounceOpen => 0x09
  | .debounceLow => 0x0A
  | .residualDebounce => 0x0B
  | .holdLimit => 0x0C
  | .recheckInterval => 0x0D
  | .trialCount => 0x0E
  | .confirmCount => 0x0F

/-- The code of a Switch Drive setting. -/
def timingCode : TimingSetting → Nat
  | .bypassSettle => 0x11
  | .relayTravel => 0x12
  | .nonOverlap => 0x13

/-- The code of a Leakage unit setting. -/
def leakageCode : LeakageSetting → Nat
  | .trip => 0x14
  | .debounce => 0x15

/-- The code of a walk setting. -/
def walkCode : WalkSetting → Nat
  | .dropFraction => 0x16
  | .walkSettle => 0x17
  | .autoWalk => 0x18

/-- The code of a link setting. -/
def linkCode : LinkSetting → Link → Nat
  | .station, .p => 0x1A
  | .station, .s => 0x1B
  | .speed, .p => 0x1C
  | .speed, .s => 0x1D

/-- The code of a port's subscriptions. -/
def subscriptionCode : Port → Nat
  | .linkP => 0x30
  | .linkS => 0x31
  | .service => 0x32

/-- The range of a numeric setting (Table 11-1). -/
def Number.range : Number → Nat × Nat
  | .routineInterval => (1, 60)
  | .lightGate => (20, 500)
  | .lowThreshold => (100, 800)
  | .reverseThreshold => (10, 500)
  | .overThreshold => (100, 2047)
  | .residualThreshold => (10, 200)
  | .debounceReverse => (1, 15)
  | .debounceOver => (1, 15)
  | .debounceOpen => (1, 63)
  | .debounceLow => (1, 255)
  | .residualDebounce => (1, 15)
  | .holdLimit => (1, 255)
  | .recheckInterval => (10, 65535)
  | .trialCount => (0, 7)
  | .confirmCount => (1, 255)
  | .bypassSettle => (2, 20)
  | .relayTravel => (20, 100)
  | .nonOverlap => (10, 200)
  | .leakageTrip => (50, 2000)
  | .leakageDebounce => (1, 15)
  | .dropFraction => (100, 900)
  | .walkSettle => (1, 30)
  | .restoreDelay => (5, 600)
  | .stationP => (1, 200)
  | .stationS => (1, 200)

/-- The value of a numeric setting. -/
def Settings.number (st : Settings) : Number → Nat
  | .routineInterval => st.routineInterval
  | .lightGate => st.lightGate
  | .lowThreshold => st.lowThreshold
  | .reverseThreshold => st.reverseThreshold
  | .overThreshold => st.overThreshold
  | .residualThreshold => st.residualThreshold
  | .debounceReverse => st.debounceReverse
  | .debounceOver => st.debounceOver
  | .debounceOpen => st.debounceOpen
  | .debounceLow => st.debounceLow
  | .residualDebounce => st.residualDebounce
  | .holdLimit => st.holdLimit
  | .recheckInterval => st.recheckInterval
  | .trialCount => st.trialCount
  | .confirmCount => st.confirmCount
  | .bypassSettle => st.bypassSettle
  | .relayTravel => st.relayTravel
  | .nonOverlap => st.nonOverlap
  | .leakageTrip => st.leakageTrip
  | .leakageDebounce => st.leakageDebounce
  | .dropFraction => st.dropFraction
  | .walkSettle => st.walkSettle
  | .restoreDelay => st.restoreDelay
  | .stationP => st.stationP
  | .stationS => st.stationS

/-- The settings with one numeric setting replaced. -/
def Settings.setNumber (st : Settings) (n : Number) (v : Nat) : Settings :=
  match n with
  | .routineInterval => { st with routineInterval := v }
  | .lightGate => { st with lightGate := v }
  | .lowThreshold => { st with lowThreshold := v }
  | .reverseThreshold => { st with reverseThreshold := v }
  | .overThreshold => { st with overThreshold := v }
  | .residualThreshold => { st with residualThreshold := v }
  | .debounceReverse => { st with debounceReverse := v }
  | .debounceOver => { st with debounceOver := v }
  | .debounceOpen => { st with debounceOpen := v }
  | .debounceLow => { st with debounceLow := v }
  | .residualDebounce => { st with residualDebounce := v }
  | .holdLimit => { st with holdLimit := v }
  | .recheckInterval => { st with recheckInterval := v }
  | .trialCount => { st with trialCount := v }
  | .confirmCount => { st with confirmCount := v }
  | .bypassSettle => { st with bypassSettle := v }
  | .relayTravel => { st with relayTravel := v }
  | .nonOverlap => { st with nonOverlap := v }
  | .leakageTrip => { st with leakageTrip := v }
  | .leakageDebounce => { st with leakageDebounce := v }
  | .dropFraction => { st with dropFraction := v }
  | .walkSettle => { st with walkSettle := v }
  | .restoreDelay => { st with restoreDelay := v }
  | .stationP => { st with stationP := v }
  | .stationS => { st with stationS := v }

/-- The speed setting of a link. -/
def Settings.speed (st : Settings) : Link → LinkSpeed
  | .p => st.speedP
  | .s => st.speedS

/-- The station address setting of a link. -/
def Settings.station (st : Settings) : Link → Nat
  | .p => st.stationP
  | .s => st.stationS

/-- The value of a setting as Read Setting sends it (Table 11-1). -/
def Settings.value (st : Settings) : Setting → Nat
  | .number n => st.number n
  | .learningEnable => if st.learningEnable then 1 else 0
  | .autoWalk => if st.autoWalk then 1 else 0
  | .speed l => (st.speed l).baud
  | .role p => (st.role.get p).code
  | .peerGroup p => (st.peerGroup.get p).val
  | .exclusion p => if st.excluded.get p then 1 else 0
  | .blendWeight g => (st.blendWeight.get g).val
  | .subscription q k => ((st.subscription.get q).get k).code

/-- The value that a Write Setting applies: a numeric value clamped to its range, an enumerated value as it is, none
for an enumerated value outside its list (R167). -/
def Setting.applied (x : Setting) (v : Nat) : Option Nat :=
  match x with
  | .number n => some (clampNat n.range.1 n.range.2 v)
  | .learningEnable => if v ≤ 1 then some v else none
  | .autoWalk => if v ≤ 1 then some v else none
  | .speed _ => if (LinkSpeed.ofBaud v).isSome then some v else none
  | .role _ => if (Role.ofCode v).isSome then some v else none
  | .peerGroup _ => if v ≤ 6 then some v else none
  | .exclusion _ => if v ≤ 1 then some v else none
  | .blendWeight _ => some (clampNat 0 3 v)
  | .subscription _ _ => if (Subscription.ofCode v).isSome then some v else none

/-- The settings with one setting replaced by an applied value. -/
def Settings.put (st : Settings) (x : Setting) (v : Nat) : Settings :=
  match x with
  | .number n => st.setNumber n v
  | .learningEnable => { st with learningEnable := v == 1 }
  | .autoWalk => { st with autoWalk := v == 1 }
  | .speed .p => { st with speedP := (LinkSpeed.ofBaud v).getD st.speedP }
  | .speed .s => { st with speedS := (LinkSpeed.ofBaud v).getD st.speedS }
  | .role p => { st with role := st.role.set p ((Role.ofCode v).getD (st.role.get p)) }
  | .peerGroup p => { st with peerGroup := st.peerGroup.set p (Fin.ofNat 7 v) }
  | .exclusion p => { st with excluded := st.excluded.set p (v == 1) }
  | .blendWeight g => { st with blendWeight := st.blendWeight.set g (Fin.ofNat 4 v) }
  | .subscription q k =>
      { st with subscription :=
          st.subscription.set q ((st.subscription.get q).set k
            ((Subscription.ofCode v).getD ((st.subscription.get q).get k))) }

/-- The debounce setting of an abnormal class (Table 4-2). -/
def Settings.debounce (st : Settings) : Abnormal → Nat
  | .low => st.debounceLow
  | .opened => st.debounceOpen
  | .reverse => st.debounceReverse
  | .over => st.debounceOver

/-! ### Requests (Table 10-2) -/

/-- The requests of Table 10-2. -/
inductive Request where
  | readStatus
  | readPosition
  | readMap
  | requestSweep
  | pinSweep
  | readSweep
  | unpinSweep
  | placeHold
  | releaseHold
  | clearFault
  | clearSwitch
  | startLocate
  | readWalk
  | fetchNotices
  | readSetting
  | writeSetting
  | saveSettings
  | resetRatio
deriving DecidableEq, Repr

/-- The Code of a request. -/
def Request.code : Request → Byte
  | .readStatus => 0x01
  | .readPosition => 0x02
  | .readMap => 0x03
  | .requestSweep => 0x10
  | .pinSweep => 0x11
  | .readSweep => 0x12
  | .unpinSweep => 0x13
  | .placeHold => 0x20
  | .releaseHold => 0x21
  | .clearFault => 0x22
  | .clearSwitch => 0x23
  | .startLocate => 0x30
  | .readWalk => 0x31
  | .fetchNotices => 0x40
  | .readSetting => 0x50
  | .writeSetting => 0x51
  | .saveSettings => 0x52
  | .resetRatio => 0x53

/-- The requests in the order of their codes. -/
def Request.all : List Request :=
  [.readStatus, .readPosition, .readMap, .requestSweep, .pinSweep, .readSweep, .unpinSweep, .placeHold, .releaseHold,
   .clearFault, .clearSwitch, .startLocate, .readWalk, .fetchNotices, .readSetting, .writeSetting, .saveSettings,
   .resetRatio]

/-- The request that a Code names, if any. -/
def Request.ofCode (c : Byte) : Option Request := Request.all.find? (fun r => r.code == c)

/-- Whether a request is permitted on a port (Table 10-2). -/
def Request.permitted (r : Request) (q : Port) : Bool :=
  match r, q with
  | .clearFault, .linkP => false
  | .clearSwitch, .linkP => false
  | .clearSwitch, .linkS => false
  | .startLocate, .linkP => false
  | .writeSetting, .linkP => false
  | .saveSettings, .linkP => false
  | .resetRatio, .linkP => false
  | _, _ => true

/-- Whether a request needs the Lockout Key ON on a port (R162, step 4). -/
def Request.needsKey (r : Request) (q : Port) : Bool :=
  match r, q with
  | .placeHold, .service => true
  | .releaseHold, .service => true
  | .clearSwitch, .service => true
  | _, _ => false

/-- The answer statuses. -/
inductive Status where
  | ok
  | unknownRequest
  | badBody
  | notPermitted
  | keyOff
  | limit
  | noRecord
  | notSwitched
  | notIsolated
  | busy
  | safetyActive
deriving DecidableEq, Repr

/-- The code of a status. -/
def Status.code : Status → Byte
  | .ok => 0x00
  | .unknownRequest => 0x01
  | .badBody => 0x02
  | .notPermitted => 0x03
  | .keyOff => 0x04
  | .limit => 0x05
  | .noRecord => 0x06
  | .notSwitched => 0x07
  | .notIsolated => 0x08
  | .busy => 0x09
  | .safetyActive => 0x0A

/-! ### Frames (R159, Table 10-6) -/

/-- One bit of the CRC-16: the register shifted left by one, less the generator when a one leaves it (R159). -/
def crcShift (r : BitVec 16) : BitVec 16 := if r.getLsbD 15 then (r <<< 1) ^^^ 0x1021 else r <<< 1

/-- The CRC-16 register after one byte, its most significant bit first (R159). -/
def crcByte (r : BitVec 16) (b : Byte) : BitVec 16 :=
  let x := r ^^^ (b.zeroExtend 16 <<< 8)
  crcShift (crcShift (crcShift (crcShift (crcShift (crcShift (crcShift (crcShift x)))))))

/-- The Check over the characters from Station to the end of Body (R159). -/
def crc16 (bs : List Byte) : BitVec 16 := bs.foldl crcByte 0xFFFF

/-- The characters of a frame after Lead, less the Check: Station, Length, Code and Body. -/
def frameHead (station : Byte) (payload : List Byte) : List Byte := station :: byte payload.length :: payload

/-- The characters of a frame after Lead, with a given Check. -/
def frameTail (station : Byte) (payload : List Byte) (check : BitVec 16) : List Byte :=
  frameHead station payload ++ bytes2 check.toNat

/-- The characters of a frame after Lead, with its own Check. -/
def goodFrame (station : Byte) (payload : List Byte) : List Byte :=
  frameTail station payload (crc16 (frameHead station payload))

end Sys2Proof.Machine
end

