-- ==== Sys2Proof/Machine/Ops.lean ====
section
/-! DEFINITION. The shared operations: the clock, notices, retained marks, the Actuation Queue and conditions, the
sweep arbiter, the walk's ends and moves, hold changes and trial interruptions. Each is said once here; the
meanings of the commands are written over them. -/

namespace Sys2Proof.Machine

/-! ### Clock and positions -/

/-- The uptime in whole seconds (Table 1-3). -/
def State.uptime (s : State) : Nat :=
  if s.now / 1000 ≤ Config.maxCount32 then s.now / 1000 else (Config.uptimePastEnd (s.now / 1000)).toNat

/-- The clock brought up to a moment (milliseconds since reset), never back (log entry 2). -/
def advanceTo (t : Nat) (s : State) : State := { s with now := max s.now t }

/-- What is kept for a position. -/
def State.pos (s : State) (p : Pos) : PosState := s.positions.get p

/-- The state with what is kept for one position changed. -/
def State.modify (s : State) (p : Pos) (f : PosState → PosState) : State :=
  { s with positions := s.positions.set p (f (s.pos p)) }

/-- The role of a position in the working copy. -/
def State.role (s : State) (p : Pos) : Role := s.settings.role.get p

/-- The qualifier record of a position replaced. -/
def setQual (p : Pos) (q : QualRecord) (s : State) : State := s.modify p (fun x => { x with qual := q })

/-- The residual counter of a position replaced. -/
def setResidual (p : Pos) (n : Nat) (s : State) : State := s.modify p (fun x => { x with residual := n })

/-- The learned ratio of a position replaced. -/
def setRatio (p : Pos) (r : Nat) (s : State) : State := s.modify p (fun x => { x with ratio := r })

/-- The bypass gate of a position turned on or off (R103). -/
def setGate (p : Pos) (b : Bool) (s : State) : State := s.modify p (fun x => { x with gate := b })

/-! ### Notices (R151 to R154) -/

/-- Whether a subscription includes an edge (R153). -/
def Subscription.keeps : Subscription → Edge → Bool
  | .off, _ => false
  | .set, .set => true
  | .set, .clear => false
  | .clear, .set => false
  | .clear, .clear => true
  | .both, _ => true

/-- A notice offered to one port: kept when its subscription includes the edge and its queue has room; dropped with
the overflow flag set when the queue is full (R152 to R154). -/
def offer (sub : PerKind Subscription) (n : Notice) (x : PortState) : PortState :=
  if (sub.get n.kind).keeps n.edge then
    if x.notices.length < Config.noticeLimit then { x with notices := x.notices ++ [n] } else { x with overflow := true }
  else x

/-- A notice offered to the queue of every port (R152). -/
def offerAll (n : Notice) (s : State) : State :=
  { s with ports :=
      ⟨offer s.settings.subscription.linkP n s.ports.linkP, offer s.settings.subscription.linkS n s.ports.linkS,
       offer s.settings.subscription.service n s.ports.service⟩ }

/-- A notice of a kind, edge, position and detail, produced now: it carries the last sweep number and the uptime
(R151). -/
def emit (k : NoticeKind) (e : Edge) (p : Option Pos) (d : Detail) (s : State) : State :=
  offerAll ⟨k, e, p, d, s.seq.lastNumber, s.uptime⟩ s

/-- The detail that names a fault reason. -/
def reasonDetail : Option Reason → Detail
  | some r => .reason r
  | none => .absent

/-! ### Marks of the retained state (R169) -/

/-- The retained state marked for writing: one retained write waits, and a further mark adds nothing while it waits
(R169). -/
def markRetained (s : State) : State :=
  if Waiting.retained ∈ s.store.waiting then s
  else { s with store := { s.store with waiting := s.store.waiting ++ [.retained] } }

/-! ### The Actuation Queue (R107, R108) -/

/-- Whether an order for a position is queued. -/
def Drive.hasOrder (d : Drive) (p : Pos) : Bool :=
  d.openQ.any (fun o => o.position == p) || d.closeQ.any (fun o => o.position == p)

/-- The queue without the order of a position. -/
def Drive.remove (d : Drive) (p : Pos) : Drive :=
  { d with openQ := d.openQ.filter (fun o => o.position != p), closeQ := d.closeQ.filter (fun o => o.position != p) }

/-- The queue with an order appended at the end of its section. -/
def Drive.append (d : Drive) (t : Target) (o : Order) : Drive :=
  match t with
  | .opened => { d with openQ := d.openQ ++ [o] }
  | .closed => { d with closeQ := d.closeQ ++ [o] }

/-- The state without the queued order of a position. -/
def removeOrder (p : Pos) (s : State) : State := { s with drive := s.drive.remove p }

/-- The Switch Drive takes the current target of a position, on the condition that stands (R87, R108). -/
def takeTarget (p : Pos) (s : State) : State :=
  if (s.pos p).condition = .closed ∨ (s.pos p).condition = .opened then
    if (s.pos p).holds.target.condition = (s.pos p).condition then removeOrder p s
    else if s.drive.hasOrder p then s
    else { s with drive := s.drive.append (s.pos p).holds.target ⟨p, s.uptime⟩ }
  else s

/-- The targets of several positions, taken in the order given (R109). -/
def takeTargets (ps : List Pos) (s : State) : State := ps.foldl (fun s p => takeTarget p s) s

/-! ### Conditions (R16, R105) -/

/-- The index of the channel whose burst runs: the number of position entries of the running sweep's record. -/
def Sequencer.channel (q : Sequencer) : Option Nat :=
  match q.running with
  | some r => (q.slots.get r.slot).map (fun x => x.entries.length)
  | none => none

/-- A change of a position's condition seen by the running sweep: if the position's burst runs, its record will keep
MOVING (R16). -/
def Sequencer.conditionChanged (q : Sequencer) (p : Pos) : Sequencer :=
  if q.channel = some p.val then
    { q with running := q.running.map (fun r => { r with burstCondition := .moving }) }
  else q

/-- The condition of a position set (R105). -/
def setCondition (p : Pos) (c : Condition) (s : State) : State :=
  if (s.pos p).condition = c then s
  else { s.modify p (fun x => { x with condition := c }) with seq := s.seq.conditionChanged p }

/-! ### The sweep arbiter (R19, R20, R25 to R28) -/

/-- Whether any port pins the record of a sweep number. -/
def State.pinned (s : State) (n : Nat) : Bool :=
  s.ports.linkP.pins.contains n || s.ports.linkS.pins.contains n || s.ports.service.pins.contains n

/-- Whether a slot may be reused: it holds an ASSESSED record that no port pins. -/
def State.reusable (s : State) (i : Fin 8) : Bool :=
  match s.seq.slots.get i with
  | some r => r.assessed && !s.pinned r.number
  | none => false

/-- The slot a starting sweep takes: the lowest FREE one, else the unpinned ASSESSED one earliest in the fill order
(R28). -/
def State.chooseSlot (s : State) : Option (Fin 8) :=
  match (List.finRange 8).find? (fun i => (s.seq.slots.get i).isNone) with
  | some i => some i
  | none => s.seq.fillOrder.find? (fun i => s.reusable i)

/-- The record of a sweep at its start (R19, R29). -/
def newRecord (n : Nat) (o : Origin) (u : Nat) : SweepRecord := ⟨n, o, u, none, false, [], []⟩

/-- A sweep of an origin given the converter and a slot: it takes the next number and the slot, which becomes the
newest of the fill order, and the burst of channel 1 begins (R15, R19, R20, R27). -/
def beginSweep (o : Origin) (forWalk : Bool) (i : Fin 8) (s : State) : State :=
  { s with seq :=
      { s.seq with
        slots := s.seq.slots.set i (some (newRecord s.seq.nextNumber o s.uptime))
        fillOrder := s.seq.fillOrder.filter (fun j => j != i) ++ [i]
        running := some ⟨i, (s.pos 0).condition, forWalk⟩
        nextNumber := nextCount s.seq.nextNumber } }

/-- The converter handed to the first waiting sweep, when it is free: LOCATE, then ROUTINE, then the requested sweep
accepted earliest (R26). -/
def startNext (s : State) : State :=
  match s.seq.running, s.chooseSlot with
  | none, some i =>
    if s.seq.locateWaiting then
      beginSweep .locate true i { s with seq := { s.seq with locateWaiting := false } }
    else if s.seq.routineWaiting then
      beginSweep .routine false i { s with seq := { s.seq with routineWaiting := false } }
    else
      match s.seq.requested with
      | q :: rest => beginSweep (portOrigin q) false i { s with seq := { s.seq with requested := rest } }
      | [] => s
  | _, _ => s

/-- Whether a LOCATE sweep of the walk that runs is waiting or running (R25, log entry 12). -/
def Sequencer.locateStands (q : Sequencer) : Bool :=
  q.locateWaiting || (match q.running with | some r => r.forWalk | none => false)

/-- The walk asks for a LOCATE sweep: merged with one that stands, else queued, and started at once when the
converter is free (R25, R26). -/
def requestLocate (s : State) : State :=
  if s.seq.locateStands then s
  else startNext { s with seq := { s.seq with locateWaiting := true } }

/-! ### The walk's moves (R138 to R144) -/

/-- The candidate of the current step, while a walk runs. -/
def Walk.candidate (w : Walk) : Option Pos :=
  match w.state, w.index with
  | .idle, _ => none
  | _, 0 => none
  | _, i + 1 => w.candidates[i]?

/-- The Sweep Sequencer when a walk ends: a waiting LOCATE sweep is withdrawn, and a running one will hand its L to no
walk (R25, R144). -/
def Sequencer.walkEnded (q : Sequencer) : Sequencer :=
  { q with locateWaiting := false, running := q.running.map (fun r => { r with forWalk := false }) }

/-- A walk ends with an outcome and, when FOUND, a position (R144). -/
def endWalk (o : WalkOutcome) (found : Option Pos) (s : State) : State :=
  emit .walk .clear found (.outcome o)
    { s with
      walk := { s.walk with state := .idle, outcome := some o, found := found, baseline := none, settleDue := none }
      seq := s.seq.walkEnded }

/-- A step entry appended to the walk record. -/
def appendEntry (e : StepEntry) (s : State) : State :=
  { s with walk := { s.walk with entries := s.walk.entries ++ [e] } }

/-- After a step: the walk ends NOT_FOUND when its candidate was the last, else the next candidate's step begins in
BASELINE (R139, R140, R143). -/
def nextCandidate (s : State) : State :=
  if s.walk.index < s.walk.candidates.length then
    requestLocate
      { s with walk := { s.walk with index := s.walk.index + 1, state := .baseline, baseline := none, settleDue := none } }
  else endWalk .notFound none s

/-- Whether a condition is settled against a target (R143). -/
def settledAgainst (c : Condition) (t : Target) : Bool :=
  match c with
  | .closed => t == .closed
  | .opened => t == .opened
  | .moving => false
  | .jammedClosed => true
  | .jammedOpen => true
  | .conductingOpen => true
  | .absent => true

/-- The test of RECLOSING for a position: if it is the candidate and its condition is settled against its target, the
walk leaves RECLOSING (R143). -/
def reclosingTest (p : Pos) (s : State) : State :=
  if s.walk.state = .reclosing ∧ s.walk.candidate = some p
      ∧ settledAgainst (s.pos p).condition (s.pos p).holds.target = true then nextCandidate s
  else s

/-! ### Hold changes (R84 to R89, R93, R96) -/

/-- Whether putting a holder at a position changes its hold set: an insertion is applied to SWITCHED positions alone
(R84, R85). -/
def alters (h : Holder) (b : Bool) (s : State) (p : Pos) : Bool :=
  ((s.pos p).holds.has h != b) && (!b || s.role p == .switched)

/-- The fault reason after a holder is put: set with FAULT, absent without it (R86). -/
def reasonAfter (h : Holder) (b : Bool) (r old : Option Reason) : Option Reason :=
  match h, b with
  | .fault, true => r
  | .fault, false => none
  | _, _ => old

/-- A holder put into or taken out of the hold set of one position, now (R85, R86). -/
def putHolder (h : Holder) (b : Bool) (r : Option Reason) (p : Pos) (s : State) : State :=
  s.modify p (fun x =>
    { x with holds := x.holds.put h b, reason := reasonAfter h b r x.reason, lastChange := s.uptime })

/-- The holders whose changes produce HOLD notices (R93). -/
def Holder.noticed : Holder → Bool
  | .plant => true
  | .site => true
  | .lockout => true
  | _ => false

/-- The qualifier record after its trial is interrupted (R73, steps 1 to 3). -/
def interrupted (st : Settings) (q : QualRecord) : QualRecord :=
  { q with
    state := .waiting, trials := min (q.trials + 1) st.trialCount, timer := some st.recheckInterval
    confirm := none, cls := none, count := 0 }

/-- A trial interrupted: the record returns to WAITING and FAULT is inserted again with the kept reason, as a change
of its own (R73, R89). -/
def interruptTrial (p : Pos) (s : State) : State :=
  takeTarget p (putHolder .fault true (s.pos p).qual.reason p (setQual p (interrupted s.settings (s.pos p).qual) s))

/-- Whether inserting a holder at a position interrupts its trial: another holder than FAULT comes into the empty hold
set of a RECHECK position (R89). -/
def interrupts (h : Holder) (b : Bool) (s : State) (p : Pos) : Bool :=
  b && h != .fault && decide ((s.pos p).holds = HoldSet.empty) && decide ((s.pos p).qual.state = .recheck)

/-- The notices of one hold change, in the order of the positions given (R93). -/
def emitHolds (h : Holder) (b : Bool) (ps : List Pos) (s : State) : State :=
  if h.noticed then ps.foldl (fun s p => emit .hold (if b then .set else .clear) (some p) (.holder h) s) s else s

/-- The mark of a LOCKOUT change (R96). -/
def markLockout (h : Holder) (ps : List Pos) (s : State) : State :=
  if h = .lockout ∧ ps ≠ [] then markRetained s else s

/-- One hold change: a holder put (`true`) or taken out (`false`) at several positions, given in ascending order. The
hold sets change together, their targets are taken, notices and the LOCKOUT mark follow, and interrupted trials
insert FAULT again (R85, R87, R89, R93, R96). -/
def changeHolder (h : Holder) (b : Bool) (r : Option Reason) (ps : List Pos) (s : State) : State :=
  ((ps.filter (alters h b s)).filter (interrupts h b s)).foldl (fun s p => interruptTrial p s)
    (markLockout h (ps.filter (alters h b s))
      (emitHolds h b (ps.filter (alters h b s))
        (takeTargets (ps.filter (alters h b s))
          ((ps.filter (alters h b s)).foldl (fun s p => putHolder h b r p s) s))))

/-- The walk after a hold change that began in `s₀`: the test of RECLOSING when the change altered the hold set of the
walk's candidate (R143). It is made on the state `s` in which every notice of the hold change itself is already
produced, so that a WALK CLEAR follows them (R152, log entry 28). -/
def reclosingAfter (h : Holder) (b : Bool) (ps : List Pos) (s₀ s : State) : State :=
  match s₀.walk.candidate with
  | some p => if p ∈ ps ∧ alters h b s₀ p = true then reclosingTest p s else s
  | none => s

/-- A hold change whose notices are those of `changeHolder`, and the walk after it (R143). -/
def changeHolds (h : Holder) (b : Bool) (r : Option Reason) (ps : List Pos) (s : State) : State :=
  reclosingAfter h b ps s (changeHolder h b r ps s)

end Sys2Proof.Machine
end

