-- ==== Sys2Proof/Machine/Qualifier.lean ====
section
/-! DEFINITION. The shared operations of the Fault Qualifier and what hangs on them: condition reports (R88), latching
(R74, R75), declaring (R65 to R68), taking a class (R61 to R64, R69 to R72, R76), the residual counter (R79, R80) with
the conducting open report (R116), Clear Fault's and the role changes' return to CLEAR, and the ground latch (R78). -/

namespace Sys2Proof.Machine

/-- The qualifier record of a position changed. -/
def modifyQual (p : Pos) (f : QualRecord → QualRecord) (s : State) : State := setQual p (f (s.pos p).qual) s

/-! ### Condition reports to the Qualifier (R68, R74, R79) -/

/-- A record on its entry into LATCHED from DECLARED, WAITING or RECHECK (R74, R75). -/
def latchedFrom (q : QualRecord) : QualRecord := { q with state := .latched, timer := none, confirm := none }

/-- A record latched, and the retained state marked (R75). -/
def latch (p : Pos) (s : State) : State := markRetained (modifyQual p latchedFrom s)

/-- Whether a declared fault of a reason is offered rechecks: LOW and OPEN are, the others latch (R68). -/
def rechecked : Option Reason → Bool
  | some (.fault .low) => true
  | some (.fault .opened) => true
  | _ => false

/-- The report that the position has become OPEN (R68). -/
def openReport (p : Pos) (s : State) : State :=
  if (s.pos p).qual.state = .declared then
    if rechecked (s.pos p).qual.reason = true ∧ 0 < (s.pos p).qual.trials then
      modifyQual p (fun q => { q with state := .waiting, timer := some s.settings.recheckInterval }) s
    else latch p s
  else s

/-- The report of a switch fault (R74). A RECHECK record latches where its FAULT insertion is not applied too, which R84
leaves open (log entry 32). -/
def faultReport (p : Pos) (s : State) : State :=
  match (s.pos p).qual.state with
  | .declared => latch p s
  | .waiting => latch p s
  | .recheck => changeHolds .fault true (s.pos p).qual.reason [p] (latch p s)
  | _ => s

/-- A condition report as the Qualifier takes it (R88). -/
def qualReport (p : Pos) (c : Condition) (s : State) : State :=
  match c with
  | .opened => openReport p s
  | .closed => setResidual p 0 s
  | .jammedClosed => faultReport p s
  | .jammedOpen => faultReport p s
  | .conductingOpen => faultReport p s
  | .moving => s
  | .absent => s

/-! ### Condition reports to the walk (R88, R140, R141, R143) -/

/-- The walk enters SETTLING and starts its settle timer (R140, R141). -/
def enterSettling (s : State) : State :=
  { s with walk :=
      { s.walk with state := .settling, settleDue := some (s.now + s.settings.walkSettle * 1000) } }

/-- A step that ends SKIPPED_JAMMED (R140). -/
def skipJammed (p : Pos) (s : State) : State :=
  nextCandidate (appendEntry ⟨p, s.walk.baseline.getD 0, none, .skippedJammed⟩ (changeHolds .locate false none [p] s))

/-- A condition report as the walk takes it, when the position is the candidate of its current step. -/
def walkReport (p : Pos) (c : Condition) (s : State) : State :=
  if s.walk.candidate = some p then
    match s.walk.state, c with
    | .opening, .opened => enterSettling s
    | .opening, .jammedClosed => skipJammed p s
    | .reclosing, _ => reclosingTest p s
    | _, _ => s
  else s

/-- A new condition handed on to the Qualifier and the walk (R88). -/
def handOn (p : Pos) (c : Condition) (s : State) : State := walkReport p c (qualReport p c s)

/-- A condition report of one position: the target is taken, then the report is handed on (R87, R88). -/
def conditionReport (p : Pos) (c : Condition) (s : State) : State := handOn p c (takeTarget p s)

/-! ### The conducting open report (R116) -/

/-- The Switch Drive takes a conducting open report (R116): SWITCH SET, then what the condition report brings about, a
WALK CLEAR included (log entry 28). -/
def conductingOpenReport (p : Pos) (s : State) : State :=
  if (s.pos p).condition = .opened then
    conditionReport p .conductingOpen
      (emit .switch .set (some p) (.condition .conductingOpen) (removeOrder p (setCondition p .conductingOpen s)))
  else s

/-! ### Declaring (R65 to R68) -/

/-- What a new DECLARED record does on the condition that stands at the declaration (R68). -/
def declaredStanding (p : Pos) (s : State) : State :=
  match (s.pos p).condition with
  | .opened => openReport p s
  | .jammedClosed => faultReport p s
  | .jammedOpen => faultReport p s
  | .conductingOpen => faultReport p s
  | _ => s

/-- A record declared on a SWITCHED position (R65). -/
def declaredRecord (c : Abnormal) (q : QualRecord) : QualRecord :=
  { q with state := .declared, reason := some (.fault c), holdCount := 0, confirm := none }

/-- A record declared on a MONITORED position (R67). -/
def reportedRecord (c : Abnormal) (q : QualRecord) : QualRecord :=
  { q with state := .reported, reason := some (.fault c), holdCount := 0, confirm := some 0 }

/-- FAULT inserted for a newly DECLARED record, the FAULT SET notice, and then the walk (R65, R143, R152; log entry 28). -/
def insertFault (p : Pos) (c : Abnormal) (s : State) : State :=
  reclosingAfter .fault true [p] s
    (emit .fault .set (some p) (.reason (.fault c)) (changeHolder .fault true (some (.fault c)) [p] s))

/-- A declaration of a class, by the role that stands (R65, R67). -/
def declare (p : Pos) (c : Abnormal) (s : State) : State :=
  match s.role p with
  | .switched => declaredStanding p (insertFault p c (modifyQual p (declaredRecord c) s))
  | .monitored => emit .fault .set (some p) (.reason (.fault c)) (modifyQual p (reportedRecord c) s)
  | .unused => s

/-! ### Taking a routine class (R61 to R64, R69 to R72, R76) -/

/-- The record that goes on counting an abnormal class: the class under count raises its count, another restarts it
at 1 (R63). -/
def counted (c : Abnormal) (q : QualRecord) : QualRecord :=
  if q.cls = some c then { q with count := q.count + 1 } else { q with cls := some c, count := 1 }

/-- A SUSPECT record back in CLEAR (R64). -/
def unsuspected (q : QualRecord) : QualRecord := { q with state := .clear, cls := none, count := 0, holdCount := 0 }

/-- The record of a CLEAR, SUSPECT or RECHECK position that has counted an abnormal class, before the test against the
debounce (R62, R63, R71). -/
def afterAbnormal (c : Abnormal) (q : QualRecord) : QualRecord :=
  match q.state with
  | .clear => { q with state := .suspect, cls := some c, count := 1, holdCount := 0 }
  | .suspect => { counted c q with holdCount := 0 }
  | .recheck => { counted c q with confirm := some 0 }
  | _ => q

/-- A CLEAR, SUSPECT or RECHECK record takes an abnormal class, and declares when the count is at its debounce (R62,
R63, R71). -/
def countAbnormal (p : Pos) (c : Abnormal) (s : State) : State :=
  if s.settings.debounce c ≤ (afterAbnormal c (s.pos p).qual).count then
    declare p c (modifyQual p (afterAbnormal c) s)
  else modifyQual p (afterAbnormal c) s

/-- A SUSPECT record takes an inconclusive class (R64). -/
def holdSuspicion (p : Pos) (s : State) : State :=
  if s.settings.holdLimit ≤ (s.pos p).qual.holdCount + 1 then modifyQual p unsuspected s
  else modifyQual p (fun q => { q with holdCount := q.holdCount + 1 }) s

/-- A record returned to CLEAR with its trials restored, and the FAULT CLEAR notice with the reason that stood (R72,
R76). -/
def recovered (p : Pos) (s : State) : State :=
  emit .fault .clear (some p) (reasonDetail (s.pos p).qual.reason)
    (setQual p (QualRecord.cleared s.settings.trialCount) s)

/-- The confirm count after one more NORMAL. -/
def confirmedOnce (q : QualRecord) : Nat := q.confirm.getD 0 + 1

/-- A RECHECK record takes NORMAL (R71, R72). -/
def confirmTrial (p : Pos) (s : State) : State :=
  if s.settings.confirmCount ≤ confirmedOnce (s.pos p).qual then recovered p s
  else modifyQual p (fun q => { q with confirm := some (confirmedOnce q), cls := none, count := 0 }) s

/-- A REPORTED record takes NORMAL (R76). -/
def confirmRecovery (p : Pos) (s : State) : State :=
  if s.settings.confirmCount ≤ confirmedOnce (s.pos p).qual then recovered p s
  else modifyQual p (fun q => { q with confirm := some (confirmedOnce q) }) s

/-- The hold set with FAULT alone. -/
def HoldSet.faultAlone : HoldSet := HoldSet.empty.put .fault true

/-- A record at the start of its trial (R70, case 2). -/
def trialRecord (q : QualRecord) : QualRecord :=
  { q with
    state := .recheck, trials := q.trials - 1, confirm := some 0, cls := none, count := 0, holdCount := 0, timer := none }

/-- A recheck timer that has reached 0 (R70). -/
def recheckExpired (p : Pos) (s : State) : State :=
  if (s.pos p).qual.trials = 0 then latch p s
  else if (s.pos p).holds = HoldSet.faultAlone ∧ (s.pos p).condition = .opened then
    changeHolds .fault false none [p] (modifyQual p trialRecord s)
  else modifyQual p (fun q => { q with timer := some s.settings.recheckInterval }) s

/-- A WAITING record at a routine completion: its timer falls by 1 (R69, R70). -/
def waitingSweep (p : Pos) (s : State) : State :=
  match (s.pos p).qual.timer with
  | some t =>
    if t ≤ 1 then recheckExpired p s else modifyQual p (fun q => { q with timer := some (t - 1) }) s
  | none => s

/-- The kinds of Table 4-2. -/
inductive ClassKind where
  | normal
  | abnormal (c : Abnormal)
  | inconclusive
  | noEffect
deriving DecidableEq, Repr

/-- The kind of a class (Table 4-2). -/
def Class.kind : Class → ClassKind
  | .normal => .normal
  | .abnormal c => .abnormal c
  | .unused => .noEffect
  | _ => .inconclusive

/-- A position's qualifier record takes the class and recorded condition of a routine sweep (R61). -/
def takeClass (p : Pos) (cls : Class) (recorded : Condition) (s : State) : State :=
  if s.role p = .unused then s
  else
    match (s.pos p).qual.state, cls.kind with
    | .clear, .abnormal c => countAbnormal p c s
    | .suspect, .abnormal c => countAbnormal p c s
    | .suspect, .normal => modifyQual p unsuspected s
    | .suspect, .inconclusive => holdSuspicion p s
    | .waiting, _ => waitingSweep p s
    | .recheck, .abnormal c => if recorded = .closed then countAbnormal p c s else s
    | .recheck, .normal => if recorded = .closed then confirmTrial p s else s
    | .reported, .normal => confirmRecovery p s
    | .reported, .abnormal _ => modifyQual p (fun q => { q with confirm := some 0 }) s
    | _, _ => s

/-! ### The residual counter (R79, R80) -/

/-- A residual counter raised by 1, within its range of 0 to 15 (R79, log entry 14). -/
def raiseResidual (n : Nat) : Nat := min (n + 1) 15

/-- A raise of the residual counter, with the conducting open report when it reaches the residual debounce (R79,
R80). -/
def countResidual (p : Pos) (s : State) : State :=
  if s.settings.residualDebounce ≤ raiseResidual (s.pos p).residual then
    conductingOpenReport p (setResidual p (raiseResidual (s.pos p).residual) s)
  else setResidual p (raiseResidual (s.pos p).residual) s

/-- A position's residual counter takes the class and recorded condition of a routine sweep (R79). -/
def takeResidual (p : Pos) (cls : Class) (recorded : Condition) (s : State) : State :=
  match cls with
  | .residual => if recorded = .opened ∧ s.role p = .switched then countResidual p s else s
  | .isolated => setResidual p 0 s
  | _ => s

/-! ### Back to CLEAR, and the ground latch (R77, R78) -/

/-- Whether a departure from a state to CLEAR is reported by a FAULT CLEAR notice (R77). -/
def QualState.faulted : QualState → Bool
  | .clear => false
  | .suspect => false
  | _ => true

/-- The FAULT CLEAR notice of a record that is cleared, with the reason that stood (R9 to R11, R77). -/
def emitCleared (p : Pos) (old : QualRecord) (s : State) : State :=
  if old.state.faulted then emit .fault .clear (some p) (reasonDetail old.reason) s else s

/-- The mark of a departure from LATCHED (R75). -/
def markUnlatched (old : QualRecord) (s : State) : State := if old.state = .latched then markRetained s else s

/-- A record LATCHED by the ground latch (R78). -/
def groundRecord (q : QualRecord) : QualRecord :=
  { q with
    state := .latched, reason := some .ground, cls := none, count := 0, holdCount := 0, timer := none, confirm := none }

/-- LOCATE replaced by FAULT with reason GROUND in the hold set of a position, in one change (R78, R86); not applied to
a position that is not SWITCHED (R84, log entry 32). -/
def replaceLocate (p : Pos) (s : State) : State :=
  if s.role p = .switched then
    takeTarget p
      (s.modify p (fun x =>
        { x with
          holds := (x.holds.put .locate false).put .fault true, reason := some .ground
          lastChange := if (x.holds.put .locate false).put .fault true = x.holds then x.lastChange else s.uptime }))
  else s

/-- The ground latch (R78). R84 keeps FAULT out of the hold set of a position that is not SWITCHED and does not say what
the Qualifier, told so, does with the record: that it is LATCHED, announced and marked all the same is the model's choice
(log entry 32). -/
def groundLatch (p : Pos) (s : State) : State :=
  markRetained
    (emit .fault .set (some p) (.reason .ground) (replaceLocate p (modifyQual p groundRecord s)))

end Sys2Proof.Machine
end

