-- ==== Sys2Proof/Machine/WalkSteps.lean ====
section
/-! DEFINITION. The shared operations of the Leakage unit and the Locating Walk: the start of a walk (R138), the two
decisions on a LOCATE sweep (R139, R142), the end on a trip (R146), and the leakage alarm (R131 to R135). -/

namespace Sys2Proof.Machine

/-! ### The walk -/

/-- Whether a position is a candidate at the start of a walk: SWITCHED, CLOSED and with an empty hold set (R138). -/
def State.fitCandidate (s : State) (p : Pos) : Bool :=
  s.role p == .switched && (s.pos p).condition == .closed && decide ((s.pos p).holds = HoldSet.empty)

/-- The candidate list built at the start of a walk, ascending (R138). -/
def State.candidates (s : State) : List Pos := Pos.all.filter s.fitCandidate

/-- The walk record at the start of a walk, before its first step (R138). -/
def newWalk (o : WalkOrigin) (u : Nat) (candidates : List Pos) : Walk where
  origin := some o
  startUptime := some u
  state := .baseline
  candidates := candidates
  index := 0
  entries := []
  outcome := none
  found := none
  baseline := none
  settleDue := none

/-- A walk starts (R138): the record is replaced, WALK SET is produced, and the first candidate's step begins, or the
walk ends NOT_FOUND when there is none. -/
def startWalk (o : WalkOrigin) (s : State) : State :=
  nextCandidate (emit .walk .set none .absent { s with walk := newWalk o s.uptime s.candidates })

/-- The BASELINE sweep's L is handed to the walk (R139). The walk enters OPENING where its LOCATE insertion is not
applied too, which R84 leaves open (log entry 32). -/
def baselineDecision (p : Pos) (l : Nat) (s : State) : State :=
  if l ≤ clearValue s.settings.leakageTrip then endWalk .cleared none s
  else if (s.pos p).condition ≠ .closed ∨ (s.pos p).holds ≠ HoldSet.empty then
    nextCandidate (appendEntry ⟨p, l, none, .skippedHeld⟩ s)
  else
    changeHolds .locate true none [p] { s with walk := { s.walk with state := .opening, baseline := some l } }

/-- The drop test is met: the step is CONFIRMED, the ground latch falls on the candidate and the walk ends FOUND
(R142). -/
def confirmDrop (p : Pos) (l : Nat) (s : State) : State :=
  endWalk .found (some p) (groundLatch p (appendEntry ⟨p, s.walk.baseline.getD 0, some l, .confirmed⟩ s))

/-- The drop test is not met: LOCATE is removed and the walk enters RECLOSING, where it tests the candidate at once
(R142, R143). -/
def enterReclosing (p : Pos) (l : Nat) (s : State) : State :=
  let s' := changeHolds .locate false none [p] (appendEntry ⟨p, s.walk.baseline.getD 0, some l, .noDrop⟩ s)
  reclosingTest p { s' with walk := { s'.walk with state := .reclosing } }

/-- The MEASURING sweep's L is handed to the walk (R142). -/
def measuringDecision (p : Pos) (l : Nat) (s : State) : State :=
  if dropTest (s.walk.baseline.getD 0) l s.settings.dropFraction then confirmDrop p l s else enterReclosing p l s

/-- The L of a LOCATE sweep handed to the walk that asked for it (R19, R139, R142). -/
def walkSweep (l : Nat) (s : State) : State :=
  match s.walk.candidate, s.walk.state with
  | some p, .baseline => baselineDecision p l s
  | some p, .measuring => measuringDecision p l s
  | _, _ => s

/-- The walk takes LOCATE out of the hold set of its candidate, if it has one (R146). -/
def releaseCandidate (s : State) : State :=
  match s.walk.candidate with
  | some p => changeHolder .locate false none [p] s
  | none => s

/-- A running walk is told of a trip: it removes LOCATE from its candidate and ends ABANDONED (R146). -/
def abandonWalk (s : State) : State :=
  if s.walk.state = .idle then s else endWalk .abandoned none (releaseCandidate s)

/-! ### The leakage alarm (R131 to R135) -/

/-- Whether an automatic walk starts on an alarm entry (R135). -/
def State.autoWalkStarts (s : State) : Bool :=
  s.settings.autoWalk && s.walk.state == .idle && s.safety.state == .armed

/-- The Leakage unit moved to a state and count. -/
def setAlarm (a : AlarmState) (n : Nat) (s : State) : State := { s with leakage := { s.leakage with state := a, count := n } }

/-- The entry into ALARM from RISING (R133, R135). Whether a walk runs is read as the Leakage unit takes its share of the
completion (log entry 31). -/
def enterAlarm (s : State) : State :=
  let s' := emit .leakage .set none .absent (setAlarm .alarm 0 s)
  if s'.autoWalkStarts then startWalk .auto s' else s'

/-- The entry into QUIET from FALLING (R133). -/
def enterQuiet (s : State) : State := emit .leakage .clear none .absent (setAlarm .quiet 0 s)

/-- A rise counted to `n`: ALARM at the debounce, else RISING (R132). -/
def rise (n : Nat) (s : State) : State :=
  if s.settings.leakageDebounce ≤ n then enterAlarm s else setAlarm .rising n s

/-- A fall counted to `n`: QUIET at the debounce, else FALLING (R132). -/
def fall (n : Nat) (s : State) : State :=
  if s.settings.leakageDebounce ≤ n then enterQuiet s else setAlarm .falling n s

/-- The alarm moved by the L of a routine sweep, as Table 8-1 gives. -/
def moveAlarm (l : Nat) (s : State) : State :=
  if s.settings.leakageTrip ≤ l then
    match s.leakage.state with
    | .quiet => rise 1 s
    | .rising => rise (s.leakage.count + 1) s
    | .alarm => s
    | .falling => setAlarm .alarm 0 s
  else if l ≤ clearValue s.settings.leakageTrip then
    match s.leakage.state with
    | .quiet => s
    | .rising => setAlarm .quiet 0 s
    | .alarm => fall 1 s
    | .falling => fall (s.leakage.count + 1) s
  else s

/-- The Leakage unit takes the L of a routine sweep (R131, R132). -/
def takeLeakage (l : Nat) (s : State) : State := moveAlarm l { s with leakage := { s.leakage with last := l } }

end Sys2Proof.Machine
end

