-- ==== Sys2Proof/Machine/Batches.lean ====
section
/-! DEFINITION. The shared operations of a batch: its formation (R110), the steps of the hybrid sequence (R111) and
its completion (R112, R120). -/

namespace Sys2Proof.Machine

/-! ### Formation (R4, R110) -/

/-- The switch group of a position: 0 to 3 for G1 to G4 (R4, Table 1-7). -/
def switchGroup (p : Pos) : Nat := p.val / 6

/-- The group line of a position's coil: line 1 to 4 of the coil matrix, counted from 0 (Table 1-7). -/
def groupLine (p : Pos) : Fin 4 := ⟨switchGroup p, by unfold switchGroup; omega⟩

/-- The position line of a position's coil: line 1 to 6 of the coil matrix, counted from 0, the lowest position of a switch
group first (Table 1-7). -/
def positionLine (p : Pos) : Fin 6 := ⟨p.val % 6, by omega⟩

/-- The head of the queue: the oldest OPEN order, or the oldest CLOSE order when there is none (R110). -/
def Drive.head (d : Drive) : Option Order :=
  match d.openQ with
  | o :: _ => some o
  | [] => d.closeQ.head?

/-- Whether an order's position lies in a switch group. -/
def inGroup (g : Nat) (o : Order) : Bool := switchGroup o.position == g

/-- The orders a batch of a switch group takes, with the conditions that stand (R110). -/
def takenOrders (g : Nat) (s : State) : List BatchOrder :=
  (s.drive.openQ.filter (inGroup g)).map (fun o => ⟨o.position, .opened, (s.pos o.position).condition⟩)
    ++ (s.drive.closeQ.filter (inGroup g)).map (fun o => ⟨o.position, .closed, (s.pos o.position).condition⟩)

/-- The pulse of one direction at a batch's start: due when some order needs it. -/
def pulseFor (t : Target) (os : List BatchOrder) : Pulse := if os.any (fun o => o.target == t) then .due else .none

/-- A batch at its start (R110, R111). -/
def newBatch (os : List BatchOrder) (s : State) : Batch where
  orders := os
  start := s.now
  bypassSettle := s.settings.bypassSettle
  relayTravel := s.settings.relayTravel
  nonOverlap := s.settings.nonOverlap
  settled := false
  resetPulse := pulseFor .opened os
  setPulse := pulseFor .closed os

/-- The positions of a batch become MOVING and their bypass gates turn on (R110, R111). -/
def setMoving (os : List BatchOrder) (s : State) : State :=
  os.foldl (fun s o => setGate o.position true (setCondition o.position .moving s)) s

/-- A batch of a switch group taken out of the queue and started (R110, R111). -/
def startBatch (g : Nat) (s : State) : State :=
  setMoving (takenOrders g s)
    { s with drive :=
        { openQ := s.drive.openQ.filter (fun o => !inGroup g o)
          closeQ := s.drive.closeQ.filter (fun o => !inGroup g o)
          batch := some (newBatch (takenOrders g s) s) } }

/-- A batch formed, provided none is in flight and the queue is not empty (R110). -/
def formBatch (s : State) : State :=
  match s.drive.batch, s.drive.head with
  | none, some o => startBatch (switchGroup o.position) s
  | _, _ => s

/-- Whether an event that began in `s₀` has appended an order (R110). -/
def appended (s₀ s : State) : Bool :=
  s.drive.openQ.any (fun o => !s₀.drive.openQ.contains o) || s.drive.closeQ.any (fun o => !s₀.drive.closeQ.contains o)

/-- The batch formed at an event that has handed targets and appended at least one order (R109, R110). -/
def formBatchAfter (s₀ s : State) : State := if appended s₀ s then formBatch s else s

/-! ### The hybrid sequence (R111) -/

/-- The state with the batch in flight changed. -/
def setBatch (b : Batch) (s : State) : State := { s with drive := { s.drive with batch := some b } }

/-- The time of a batch's set pulses, from its start: T1, or T1 + TNO in a mixed batch (Table 6-3). -/
def Batch.setStart (b : Batch) : Nat :=
  if b.resetPulse = .none then b.bypassSettle else b.bypassSettle + b.nonOverlap

/-- The time at which a batch's last pulse ends, from its start (Table 6-3). -/
def Batch.lastPulseEnd (b : Batch) : Nat :=
  if b.setPulse = .none then b.bypassSettle + Config.coilPulse else b.setStart + Config.coilPulse

/-- The time at which a batch completes, from its start: the end of the last pulse plus T2 (Table 6-3). -/
def Batch.completion (b : Batch) : Nat := b.lastPulseEnd + b.relayTravel

/-- A batch at T1: its reset pulses begin, or in a closing batch its set pulses (R111). -/
def Batch.settle (b : Batch) : Batch :=
  if b.resetPulse = .due then { b with settled := true, resetPulse := .on }
  else { b with settled := true, setPulse := if b.setPulse = .due then .on else b.setPulse }

/-- Whether T1 has yet to pass. -/
def Batch.awaitsSettle (b : Batch) : Bool := !b.settled

/-- Whether the set pulses of a mixed batch are next: T1 has passed, they have not begun, and the reset pulses have
ended unless TNO lets them overlap (R111). -/
def Batch.awaitsNonOverlap (b : Batch) : Bool :=
  b.settled && b.setPulse == .due && (b.resetPulse == .done || (b.resetPulse == .on && decide (b.nonOverlap ≤ Config.coilPulse)))

/-- Whether the reset pulses end next: they are applied, and the set pulses have begun if they begin sooner (R111). -/
def Batch.awaitsResetEnd (b : Batch) : Bool :=
  b.resetPulse == .on && (b.setPulse != .due || decide (Config.coilPulse ≤ b.nonOverlap))

/-- Whether the set pulses end next: they are applied and no reset pulse is (R111). -/
def Batch.awaitsSetEnd (b : Batch) : Bool := b.setPulse == .on && b.resetPulse != .on

/-- Whether every pulse of a batch has ended. -/
def Batch.pulsesDone (b : Batch) : Bool :=
  b.settled && (b.resetPulse == .none || b.resetPulse == .done) && (b.setPulse == .none || b.setPulse == .done)

/-! ### The coil matrix (R4, R102) -/

/-- The coil matrix outputs: for each line, whether it is energised. A position line has a driver in the set direction and
one in the reset direction (R102). -/
structure CoilLines where
  group : Vector Bool 4
  setDriver : Vector Bool 6
  resetDriver : Vector Bool 6
deriving DecidableEq, Repr

/-- The coil matrix with nothing energised. -/
def CoilLines.off : CoilLines := ⟨Vector.replicate 4 false, Vector.replicate 6 false, Vector.replicate 6 false⟩

/-- The pulse of a batch in the direction of a target: reset opens, set closes (R102). -/
def Batch.pulse (b : Batch) : Target → Pulse
  | .opened => b.resetPulse
  | .closed => b.setPulse

/-- The positions of a batch that a pulse in the direction of a target stands on (R111). -/
def Batch.pulsed (b : Batch) (t : Target) : List Pos :=
  if b.pulse t = .on then (b.orders.filter (fun o => o.target == t)).map BatchOrder.position else []

/-- What a batch energises: for each pulsed position its group line, and its position line in the pulse's direction (R4,
R102). -/
def Batch.coilLines (b : Batch) : CoilLines where
  group := tabulate (fun g => (b.pulsed .opened ++ b.pulsed .closed).any (fun p => groupLine p == g))
  setDriver := tabulate (fun k => (b.pulsed .closed).any (fun p => positionLine p == k))
  resetDriver := tabulate (fun k => (b.pulsed .opened).any (fun p => positionLine p == k))

/-- The coil matrix outputs as the state has them: pulses are applied during a batch alone (R102, log entry 21). -/
def State.coilLines (s : State) : CoilLines :=
  match s.drive.batch with
  | some b => b.coilLines
  | none => CoilLines.off

/-! ### Completion (R112, R117, R120) -/

/-- The condition an order and its contact reading give (R112). -/
def verified (t : Target) (contactClosed : Bool) : Condition :=
  match t, contactClosed with
  | .opened, false => .opened
  | .opened, true => .jammedClosed
  | .closed, false => .jammedOpen
  | .closed, true => .closed

/-- The new condition of a batch position. -/
def BatchOrder.result (c : Contacts) (o : BatchOrder) : Condition := verified o.target (c.closed o.position)

/-- The notice of one batch position: SWITCH SET for a jam, ISOLATION SET for a move from CLOSED to OPEN, ISOLATION
CLEAR for a move from OPEN to CLOSED (R117, R120). -/
def emitVerified (p : Pos) (before after : Condition) (s : State) : State :=
  if after.isFault then emit .switch .set (some p) (.condition after) s
  else if before = .closed ∧ after = .opened then emit .isolation .set (some p) .absent s
  else if before = .opened ∧ after = .closed then emit .isolation .clear (some p) .absent s
  else s

/-- The orders of a batch in ascending position order. -/
def ascending (os : List BatchOrder) : List BatchOrder := os.insertionSort (fun a b => a.position ≤ b.position)

/-- The conditions of a completing batch taken and its gates turned off (R112). -/
def setVerified (c : Contacts) (os : List BatchOrder) (s : State) : State :=
  os.foldl (fun s o => setGate o.position false (setCondition o.position (o.result c) s)) s

/-- The notices of a completing batch (R120). -/
def emitBatch (c : Contacts) (os : List BatchOrder) (s : State) : State :=
  os.foldl (fun s o => emitVerified o.position o.before (o.result c) s) s

/-- The reports of a completing batch handed on to the Qualifier and the walk (R88). -/
def handOnBatch (c : Contacts) (os : List BatchOrder) (s : State) : State :=
  os.foldl (fun s o => handOn o.position (o.result c) s) s

/-- A batch completes: contacts are read, conditions set, gates turned off, targets taken, notices produced, reports
handed on, and the next batch is formed (R112). -/
def completeBatch (c : Contacts) (b : Batch) (s : State) : State :=
  formBatch
    (handOnBatch c (ascending b.orders)
      (emitBatch c (ascending b.orders)
        (takeTargets ((ascending b.orders).map BatchOrder.position)
          (setVerified c (ascending b.orders) { s with drive := { s.drive with batch := none } }))))

end Sys2Proof.Machine
end

