-- ==== Sys2Proof/Machine/Storing.lean ====
section
/-! DEFINITION. The shared operations of the Retained Store: the newer copy of an image (R168), the contents of a
retained write (R169), the start and end of writes (R168 to R170), and how an event ends. -/

namespace Sys2Proof.Machine

/-- A copy of an image by name. -/
def Image.get {α : Type} (im : Image α) : CopyName → Option (Copy α)
  | .copy1 => im.copy1
  | .copy2 => im.copy2

/-- An image with one copy replaced. -/
def Image.set {α : Type} (im : Image α) (k : CopyName) (c : Option (Copy α)) : Image α :=
  match k with
  | .copy1 => { im with copy1 := c }
  | .copy2 => { im with copy2 := c }

/-- The newer of the two copies of an image, if any is good (R168). -/
def Image.newer {α : Type} (im : Image α) : Option CopyName :=
  match im.copy1, im.copy2 with
  | none, none => none
  | some _, none => some .copy1
  | none, some _ => some .copy2
  | some a, some b =>
    if a.count = nextCount b.count then some .copy1
    else if b.count = nextCount a.count then some .copy2
    else if a.count < b.count then some .copy2
    else some .copy1

/-- The content an image is loaded from: that of its newer copy (R171). -/
def Image.load {α : Type} (im : Image α) : Option α :=
  match im.newer with
  | some k => (im.get k).map Copy.content
  | none => none

/-- The other copy. -/
def CopyName.other : CopyName → CopyName
  | .copy1 => .copy2
  | .copy2 => .copy1

/-- The copy a write goes to: the one that is not the newer, or copy 1 when there is no newer (R168). -/
def Image.writeCopy {α : Type} (im : Image α) : CopyName :=
  match im.newer with
  | some k => k.other
  | none => .copy1

/-- The count a write gives: one above the newer copy's, or 1 when there is no newer (R168). -/
def Image.writeCount {α : Type} (im : Image α) : Nat :=
  match im.newer with
  | some k =>
    match im.get k with
    | some c => nextCount c.count
    | none => 1
  | none => 1

/-- The three parts of the retained state as they stand (R169). -/
def State.retained (s : State) : Retained where
  lockouts := tabulate (fun p => (s.pos p).holds.lockout)
  latched := tabulate (fun p => if (s.pos p).qual.state = .latched then (s.pos p).qual.reason else none)
  ratios := s.store.ratioSnapshot

/-- A save starts writing its snapshot: the copy it writes is first marked invalid (R168). -/
def Store.beginSave (x : Store) (snapshot : Settings) : Store :=
  { x with
    writing := some (.save x.settingsImage.writeCopy ⟨snapshot, x.settingsImage.writeCount⟩)
    settingsImage := x.settingsImage.set x.settingsImage.writeCopy none }

/-- A retained write starts with the contents as they stand (R169, R170). -/
def Store.beginRetained (x : Store) (content : Retained) : Store :=
  { x with
    writing := some (.retained x.retainedImage.writeCopy ⟨content, x.retainedImage.writeCount⟩)
    retainedImage := x.retainedImage.set x.retainedImage.writeCopy none }

/-- The first waiting write starts, when the store is free (R170). -/
def startWrite (s : State) : State :=
  match s.store.writing, s.store.waiting with
  | none, .save snapshot :: rest => { s with store := { s.store with waiting := rest }.beginSave snapshot }
  | none, .retained :: rest => { s with store := { s.store with waiting := rest }.beginRetained s.retained }
  | _, _ => s

/-- Whether a save is in progress: it waits or is being written (R168). -/
def Store.saving (x : Store) : Bool :=
  x.waiting.any (fun w => match w with | .save _ => true | .retained => false)
    || (match x.writing with | some (.save _ _) => true | _ => false)

/-- A save's write and read-back complete (R168). A copy whose read-back does not match is not good (log entry 10). -/
def endSave (k : CopyName) (c : Copy Settings) (good : Bool) (s : State) : State :=
  { s with store :=
      { s.store with
        writing := none
        settingsImage := s.store.settingsImage.set k (if good then some c else none)
        saveOutcome := if good then .ok else .failed } }

/-- A retained write and its read-back complete; a mismatch marks the retained state again (R169). -/
def endRetained (k : CopyName) (c : Copy Retained) (good : Bool) (s : State) : State :=
  (fun s' : State => if good then s' else markRetained s')
    { s with store :=
        { s.store with
          writing := none
          retainedImage := s.store.retainedImage.set k (if good then some c else none)
          retainedValid := good } }

/-- The write that an event which began in `s₀` has set waiting starts at once when the store is free (R170). -/
def startWriteAfter (s₀ s : State) : State := if s.store.waiting = s₀.store.waiting then s else startWrite s

/-- How an event that began in `s₀` ends: the batch its appended orders form, and the write its marks start (R110,
R170; log entries 8 and 18). -/
def conclude (s₀ s : State) : State := startWriteAfter s₀ (formBatchAfter s₀ s)

end Sys2Proof.Machine
end

