-- ==== Sys2Proof/Machine/Assessment.lean ====
section
/-! DEFINITION. The assessment of a sweep (Chapter 3: absolute classes, group references, relative classes, learning),
the burst and completion of a sweep and its hand-over by origin (R15 to R19, R24, R51). -/

namespace Sys2Proof.Machine

/-! ### Stage 2: absolute classes (R39 to R41) -/

/-- The recorded conditions judged by the residual test (Table 3-2, lines 4 and 5). -/
def Condition.openAtSample : Condition → Bool
  | .opened => true
  | .jammedOpen => true
  | .conductingOpen => true
  | _ => false

/-- The absolute class of a position, or none when it is pending relative (R39, Table 3-2). -/
def absoluteClass (st : Settings) (p : Pos) (e : PosEntry) : Option Class :=
  if st.role.get p = .unused then some .unused
  else if st.excluded.get p then some .excluded
  else if e.condition = .moving then some .unsettled
  else if e.condition.openAtSample then
    if (st.residualThreshold : Int) < |e.mean| then some .residual else some .isolated
  else if e.saturation = .plus ∨ (st.overThreshold : Int) ≤ e.mean then some (.abnormal .over)
  else if e.saturation = .minus ∨ e.mean ≤ -(st.reverseThreshold : Int) then some (.abnormal .reverse)
  else none

/-! ### Stage 3: group references (R42 to R45) -/

/-- The peer group number of an index, 1 to 6. -/
def groupNumber (g : Fin 6) : Fin 7 := g.succ

/-- Whether a position is an eligible member of a group (R42). -/
def eligible (st : Settings) (quals : Pos → QualState) (es : Pos → PosEntry) (g : Fin 6) (p : Pos) : Bool :=
  st.peerGroup.get p == groupNumber g
    && (absoluteClass st p (es p)).isNone
    && ((es p).condition == .closed || ((es p).condition == .absent && st.role.get p == .monitored))
    && (quals p == .clear || quals p == .suspect)

/-- A group's entry: its members, eligible members, median and dim flag (R43 to R45). -/
def assessGroup (st : Settings) (quals : Pos → QualState) (es : Pos → PosEntry) (g : Fin 6) : GroupEntry :=
  let means := (Pos.all.filter (eligible st quals es g)).map (fun p => (es p).mean)
  let median := lowerMedian means
  { members := (Pos.all.filter (fun p => st.peerGroup.get p == groupNumber g)).length
    eligible := means.length
    median := median
    dim := match median with
      | some m => decide (m < (st.lightGate : Int))
      | none => false }

/-! ### Stage 4: relative classes (R46 to R50) -/

/-- The peer group of a position as an index, none when it is ungrouped. -/
def groupIndex (st : Settings) (p : Pos) : Option (Fin 6) :=
  (List.finRange 6).find? (fun g => st.peerGroup.get p == groupNumber g)

/-- The entry of a position judged against a median by its effective ratio (R47 to R50). -/
def judge (st : Settings) (e : PosEntry) (m ratio : Int) : PosEntry :=
  let x := expectedCurrent m ratio
  let d := deviation e.mean x
  { e with cls := some (relativeClass st.lowThreshold d), expected := some x, deviation := some d }

/-- The entry of a pending-relative position after stage 4 (R46). -/
def assessRelative (st : Settings) (groups : Fin 6 → GroupEntry) (ratio : Nat) (p : Pos) (e : PosEntry) : PosEntry :=
  match groupIndex st p with
  | none => { e with cls := some .noRef }
  | some g =>
    match (groups g).median with
    | none => { e with cls := some .noRef }
    | some m =>
      if (groups g).dim then { e with cls := some .dim }
      else judge st e m (effectiveRatio (st.blendWeight.get g).val ratio)

/-- The entry of a position after the assessment (R38). -/
def assessEntry (st : Settings) (groups : Fin 6 → GroupEntry) (ratio : Nat) (p : Pos) (e : PosEntry) : PosEntry :=
  match absoluteClass st p e with
  | some c => { e with cls := some c }
  | none => assessRelative st groups ratio p e

/-! ### The assessment of a record (R37) -/

/-- The entry that stands in a record for a position before the assessment. A record is assessed when all 24 stand. -/
def SweepRecord.entry (r : SweepRecord) (p : Pos) : PosEntry :=
  r.entries.getD p.val ⟨0, .none, .absent, none, none, none⟩

/-- The class that stands in an assessed record for a position. -/
def SweepRecord.cls (r : SweepRecord) (p : Pos) : Class := (r.entry p).cls.getD .unused

/-- The group entry of an assessed record. -/
def SweepRecord.group (r : SweepRecord) (g : Fin 6) : GroupEntry := r.groups.getD g.val ⟨0, 0, none, false⟩

/-- The group entries the assessment writes into a record, from the state as it stands (R37, R45). -/
def State.assessGroups (s : State) (r : SweepRecord) : List GroupEntry :=
  (List.finRange 6).map (assessGroup s.settings (fun p => (s.pos p).qual.state) r.entry)

/-- A record with its leakage mean, assessed on the state as it stands (R37, R38). -/
def State.assess (s : State) (l : Nat) (r : SweepRecord) : SweepRecord :=
  { r with
    leakage := some l
    assessed := true
    entries := Pos.all.map (fun p =>
      assessEntry s.settings (fun g => (s.assessGroups r).getD g.val ⟨0, 0, none, false⟩) (s.pos p).ratio p (r.entry p))
    groups := s.assessGroups r }

/-! ### Stage 5: learning (R53 to R55) -/

/-- Whether a position is updated by the learning step of a routine sweep (R53). -/
def State.learns (s : State) (r : SweepRecord) (p : Pos) : Bool :=
  s.settings.learningEnable && r.cls p == .normal && (s.pos p).qual.state == .clear && s.role p != .unused

/-- The median of a position's group in a record. -/
def State.medianOf (s : State) (r : SweepRecord) (p : Pos) : Option Int :=
  match groupIndex s.settings p with
  | some g => (r.group g).median
  | none => none

/-- The learned ratio of a position after a routine sweep (R54). -/
def State.nextRatio (s : State) (r : SweepRecord) (p : Pos) : Nat :=
  match s.medianOf r p with
  | some m =>
    if s.learns r p then learnedRatio (s.pos p).ratio (observedRatio (r.entry p).mean m) else (s.pos p).ratio
  | none => (s.pos p).ratio

/-- The learning step, and the last class of each position (R51, R54). -/
def learn (r : SweepRecord) (s : State) : State :=
  { s with positions := tabulate (fun p =>
      { s.pos p with ratio := s.nextRatio r p, lastClass := some (r.cls p) }) }

/-! ### Completion and hand-over (R19, R24, R51, R61, R131, R152) -/

/-- One position's share of a routine completion: its qualifier record, then its residual counter (R61, R79). The manual
gives the two no order: that the record comes first is the model's choice (log entry 29). -/
def takePosition (r : SweepRecord) (p : Pos) (s : State) : State :=
  takeResidual p (r.cls p) (r.entry p).condition (takeClass p (r.cls p) (r.entry p).condition s)

/-- A routine completion: learning, the Fault Qualifier in ascending position order, then the Leakage unit (R51,
R152), which tests for a running walk after what the Qualifier's share has done to it (log entry 31). R61 gives the positions no
order: that they take their classes, and hand their targets to the Switch Drive, in ascending order is the model's choice
(log entry 33). -/
def handRoutine (r : SweepRecord) (l : Nat) (s : State) : State :=
  takeLeakage l (Pos.all.foldl (fun s p => takePosition r p s) (learn r s))

/-- The record of a requested sweep pinned for its port (R24). -/
def pinCompleted (n : Nat) (x : PortState) : PortState := { x with pins := x.pins ++ [n], lastRequested := n }

/-- A port's part of the state changed. -/
def modifyPort (q : Port) (f : PortState → PortState) (s : State) : State :=
  { s with ports := s.ports.set q (f (s.ports.get q)) }

/-- The results of a completed sweep handed on by its origin (R19, Table 2-2). -/
def handOver (r : SweepRecord) (run : Running) (l : Nat) (s : State) : State :=
  match r.origin with
  | .routine => handRoutine r l s
  | .plant => modifyPort .linkP (pinCompleted r.number) s
  | .site => modifyPort .linkS (pinCompleted r.number) s
  | .service => modifyPort .service (pinCompleted r.number) s
  | .locate => if run.forWalk then walkSweep l s else s

/-- A sweep completed: its assessed record is written, the converter is free, its number is the last sweep number
(R19). -/
def recordCompleted (r : SweepRecord) (run : Running) (s : State) : State :=
  { s with seq :=
      { s.seq with slots := s.seq.slots.set run.slot (some r), running := none, lastNumber := r.number } }

/-- The completion of the running sweep (R19): assessment, hand-over, and the converter handed to a waiting sweep
(R26, log entry 11). -/
def completeSweep (r : SweepRecord) (run : Running) (l : Nat) (s : State) : State :=
  startNext (handOver (s.assess l r) run l (recordCompleted (s.assess l r) run s))

/-- The running sweep and its record. -/
def Sequencer.current (q : Sequencer) : Option (Running × SweepRecord) :=
  match q.running with
  | some run => (q.slots.get run.slot).map (fun r => (run, r))
  | none => none

/-- The entry of a position whose burst has completed (R16, R17). -/
def burstEntry (v : Samples) (c : Condition) : PosEntry := ⟨stringMean v, saturationOf v, c, none, none, none⟩

/-- The condition that stands at the beginning of the burst with a channel index; the leakage channel belongs to no
position (R16). -/
def State.conditionAt (s : State) (channel : Nat) : Condition :=
  if h : channel < 24 then (s.pos ⟨channel, h⟩).condition else .absent

/-- A string channel's burst completed: its entry is written into the record and the next burst begins (R15 to
R17). -/
def completeBurst (v : Samples) (run : Running) (r : SweepRecord) (s : State) : State :=
  { s with seq :=
      { s.seq with
        slots := s.seq.slots.set run.slot
          (some { r with entries := r.entries ++ [burstEntry v run.burstCondition] })
        running := some { run with burstCondition := s.conditionAt (r.entries.length + 1) } } }

end Sys2Proof.Machine
end

