-- ==== Sys2Proof/Machine/Links.lean ====
section
/-! DEFINITION. The shared operations of the ports: the return of a receiver to IDLE (R157, R158), whether a frame can
have arrived, the checks of a request in their order (R162), and the taking and answering of a request (R160). -/

namespace Sys2Proof.Machine

/-! ### Receivers (R157, R158) -/

/-- The link of a port, if it has one. -/
def linkOf : Port → Option Link
  | .linkP => some .p
  | .linkS => some .s
  | .service => none

/-- A port run at the station address and speed of the working copy (R157). -/
def applyLink (st : Settings) (l : Option Link) (x : PortState) : PortState :=
  match l with
  | some k => { x with station := st.station k, speed := st.speed k }
  | none => x

/-- A port's receiver back in IDLE, with nothing being sent; a written speed or address is applied (R157, R158). -/
def toIdle (q : Port) (s : State) : State :=
  modifyPort q (fun x => applyLink s.settings (linkOf q) { x with receiver := .idle, answer := [] }) s

/-- A written speed or address applied at once where the receiver is IDLE (R157). -/
def applyIfIdle (l : Link) (s : State) : State :=
  if (s.ports.get l.port).receiver = .idle then
    modifyPort l.port (fun x => applyLink s.settings (some l) x) s
  else s

/-- Whether characters that follow a Lead can have arrived at a port just now: its receiver is IDLE, or it has received
some of them, but not all, and nothing else (R158). -/
def arrives (x : PortState) (chars : List Byte) : Bool :=
  match x.receiver with
  | .idle => true
  | .receiving got => got.isPrefixOf chars && decide (got.length < chars.length)
  | .answering => false

/-- Whether a frame's Station is accepted on a port: the port's station address on a link, any on the Service Port
(Table 10-1). -/
def stationAccepted (q : Port) (x : PortState) (station : Byte) : Bool :=
  match q with
  | .service => true
  | _ => decide (station.toNat = x.station)

/-! ### Taking a request (R160, R162) -/

/-- What a request does and answers: the new state, and the answer's Status and the rest of its Body. -/
abbrev Reply := State × List Byte

/-- A request refused: the Status alone, and nothing changed (R160). -/
def refuse (st : Status) (s : State) : Reply := (s, [st.code])

/-- A request answered OK with the rest of the Body. -/
def accept (rest : List Byte) (s : State) : Reply := (s, Status.ok.code :: rest)

/-- The first four checks of a request, then the rest of its judgement (R162): the Code is known, so permission, body
and key follow in this order. -/
def checked (r : Request) (q : Port) (bodyOk : Bool) (f : State → Reply) (s : State) : Reply :=
  if r.permitted q = false then refuse .notPermitted s
  else if bodyOk = false then refuse .badBody s
  else if (r.needsKey q && !s.key) = true then refuse .keyOff s
  else f s

/-- The Station of an answer: the port's station address on a link, the request's Station on the Service Port
(R160). -/
def answerStation (q : Port) (x : PortState) (station : Byte) : Byte :=
  match q with
  | .service => station
  | _ => byte x.station

/-- The answer frame: Lead, then the characters of a frame whose Code is the request's with its top bit set (R160,
Table 10-6). -/
def answerFrame (station code : Byte) (body : List Byte) : List Byte :=
  Config.lead :: goodFrame station ((code ||| 0x80) :: body)

/-- The answer of a request put in its port for sending. -/
def sendAnswer (q : Port) (station code : Byte) (reply : Reply) : State :=
  modifyPort q (fun x => { x with answer := answerFrame (answerStation q x station) code reply.2 }) reply.1

/-- The receiver of a port in ANSWERING. -/
def toAnswering (q : Port) (s : State) : State := modifyPort q (fun x => { x with receiver := .answering }) s

/-- A request taken on a port: the receiver becomes ANSWERING, the request is judged and carried out on the state as it
stands, and the answer frame is sent (R158, R160). -/
def takeRequest (q : Port) (station code : Byte) (f : State → Reply) (s : State) : State :=
  sendAnswer q station code (f (toAnswering q s))

/-- A frame with a good Check that has arrived whole at a port: discarded when it is for another station, else taken as
a request (R158). -/
def judgeFrame (q : Port) (station code : Byte) (f : State → Reply) (s : State) : State :=
  if stationAccepted q (s.ports.get q) station then takeRequest q station code f s else toIdle q s

/-- A whole frame of a request arriving at a port. A frame whose Length would exceed 248, or that cannot have arrived
where the receiver stands, is none (R158, log entries 4 and 5). -/
def receiveRequest (q : Port) (station code : Byte) (body : List Byte) (f : State → Reply) (s : State) : State :=
  if body.length < Config.maxLength ∧ arrives (s.ports.get q) (goodFrame station (code :: body)) = true then
    judgeFrame q station code f s
  else s

end Sys2Proof.Machine
end

