-- ==== Sys2Proof/Machine/Reads.lean ====
section
/-! DEFINITION. The read requests (R163 to R165) and the sweep requests (R23, R30, R32, R34, R35). -/

namespace Sys2Proof.Machine

/-! ### Read Status (R163, Table 10-3) -/

/-- How many positions stand in a condition. -/
def State.countIn (s : State) (c : Condition) : Nat := (Pos.all.filter (fun p => (s.pos p).condition == c)).length

/-- The origin of the sweep that runs. -/
def State.runningOrigin (s : State) : Option Origin := s.seq.current.map (fun x => x.2.origin)

/-- A port's pending requested sweep: 0 absent, 1 waiting, 2 running (R23, Table 10-3). -/
def State.pendingSweep (s : State) (q : Port) : Nat :=
  if s.runningOrigin = some (portOrigin q) then 2 else if q ∈ s.seq.requested then 1 else 0

/-- The body of a Read Status answer after Status (Table 10-3). -/
def statusBody (q : Port) (s : State) : List Byte :=
  let x := s.ports.get q
  bytes4 s.uptime ++ bytes4 s.seq.lastNumber
    ++ [byte s.safety.state.code, byte s.leakage.state.code] ++ bytes2 s.leakage.last
    ++ [byte s.walk.state.code,
        byte (s.countIn .closed), byte (s.countIn .opened), byte (s.countIn .moving), byte (s.countIn .jammedClosed),
        byte (s.countIn .jammedOpen), byte (s.countIn .conductingOpen), byte (s.countIn .absent),
        flagByte s.store.fromImage, flagByte s.store.retainedValid, byte s.store.saveOutcome.code,
        flagByte s.store.saving, flagByte s.key, byte x.pins.length]
    ++ bytes4 (x.pins.getD 0 0) ++ bytes4 (x.pins.getD 1 0)
    ++ [byte (s.pendingSweep q)] ++ bytes4 x.lastRequested ++ [byte x.notices.length, flagByte x.overflow]

/-- Read Status judged on the state (R163). -/
def judgeReadStatus (q : Port) (body : List Byte) : State → Reply :=
  checked .readStatus q body.isEmpty (fun s => accept (statusBody q s) s)

/-! ### Read Position (R59, R101, R164, Table 10-4) -/

/-- The position named by a one-byte body, none for another length or number (R162). -/
def bodyPosition (body : List Byte) : Option Pos :=
  match body with
  | [b] => Pos.ofNumber b.toNat
  | _ => none

/-- The queued order of a position: the code of its target and its enqueue uptime, or zeros (Table 10-4). -/
def State.orderOf (s : State) (p : Pos) : Nat × Nat :=
  match s.drive.openQ.find? (fun o => o.position == p), s.drive.closeQ.find? (fun o => o.position == p) with
  | some o, _ => (Condition.opened.code, o.since)
  | none, some o => (Condition.closed.code, o.since)
  | none, none => (0, 0)

/-- The body of a Read Position answer after Status (Table 10-4). An absent field is sent as 0. -/
def positionBody (p : Pos) (s : State) : List Byte :=
  let x := s.pos p
  [byte p.number, byte (s.role p).code, byte (s.settings.peerGroup.get p).val, flagByte (s.settings.excluded.get p),
   byte x.condition.code, byte (s.orderOf p).1]
    ++ bytes4 (s.orderOf p).2
    ++ [x.holds.code, byte ((x.reason.map Reason.code).getD 0)]
    ++ bytes4 x.lastChange
    ++ [byte x.qual.state.code, byte ((x.qual.cls.map abnormalCode).getD 0), byte x.qual.count,
        byte ((x.qual.reason.map Reason.code).getD 0)]
    ++ bytes2 (x.qual.timer.getD 0)
    ++ [byte (x.qual.confirm.getD 0), byte x.qual.trials]
    ++ bytes2 x.ratio ++ [byte ((x.lastClass.map Class.code).getD 0)]

/-- Read Position judged on the state (R164). -/
def judgeReadPosition (q : Port) (body : List Byte) : State → Reply :=
  checked .readPosition q (bodyPosition body).isSome (fun s =>
    match bodyPosition body with
    | some p => accept (positionBody p s) s
    | none => refuse .badBody s)

/-! ### Read Map and Read Walk (R165, Table 10-5) -/

/-- The body of a Read Map answer after Status: condition and hold set of each position (Table 10-5). -/
def mapBody (s : State) : List Byte :=
  Pos.all.flatMap (fun p => [byte (s.pos p).condition.code, (s.pos p).holds.code])

/-- Read Map judged on the state (R165). -/
def judgeReadMap (q : Port) (body : List Byte) : State → Reply :=
  checked .readMap q body.isEmpty (fun s => accept (mapBody s) s)

/-- A step entry in a Read Walk answer: an absent measured leakage is sent as 65535 (R165). -/
def entryBytes (e : StepEntry) : List Byte :=
  byte e.position.number :: bytes2 e.baseline ++ bytes2 (e.measured.getD 65535) ++ [byte e.result.code]

/-- The body of a Read Walk answer after Status (Table 10-5). -/
def walkBody (w : Walk) : List Byte :=
  [byte w.state.code, byte ((w.origin.map WalkOrigin.code).getD 0)]
    ++ bytes4 (w.startUptime.getD 0)
    ++ maskBytes (fun p => w.candidates.contains p)
    ++ [byte w.index, byte w.entries.length, byte ((w.outcome.map WalkOutcome.code).getD 0),
        byte ((w.found.map Pos.number).getD 0)]
    ++ w.entries.flatMap entryBytes

/-- Read Walk judged on the state (R165). -/
def judgeReadWalk (q : Port) (body : List Byte) : State → Reply :=
  checked .readWalk q body.isEmpty (fun s => accept (walkBody s.walk) s)

/-! ### Request Sweep (R23, R26, R33) -/

/-- A requested sweep of a port accepted: it waits behind those accepted before it, and starts at once when the
converter is free (R23, R26). -/
def queueRequested (q : Port) (s : State) : State :=
  startNext { s with seq := { s.seq with requested := s.seq.requested ++ [q] } }

/-- Request Sweep judged on the state (R23). -/
def judgeRequestSweep (q : Port) (body : List Byte) : State → Reply :=
  checked .requestSweep q body.isEmpty (fun s =>
    if s.pendingSweep q ≠ 0 then accept [] s
    else if Config.pinLimit ≤ (s.ports.get q).pins.length then refuse .limit s
    else accept [] (queueRequested q s))

/-! ### Pin Sweep and Unpin Sweep (R30, R32) -/

/-- The ASSESSED record that a slot holds. -/
def Sequencer.assessedIn (x : Sequencer) (i : Fin 8) : Option SweepRecord :=
  (x.slots.get i).filter SweepRecord.assessed

/-- The ASSESSED record of a sweep number (R30). -/
def Sequencer.find (x : Sequencer) (n : Nat) : Option SweepRecord :=
  ((List.finRange 8).filterMap x.assessedIn).find? (fun r => r.number == n)

/-- The record of the most recently completed sweep still in the ring (R30). -/
def Sequencer.latest (x : Sequencer) : Option SweepRecord := (x.fillOrder.filterMap x.assessedIn).getLast?

/-- The record that a Pin Sweep names, 0 naming the latest (R30). -/
def Sequencer.named (x : Sequencer) (n : Nat) : Option SweepRecord := if n = 0 then x.latest else x.find n

/-- A record pinned for a port (R30, step 4). -/
def addPin (q : Port) (n : Nat) (s : State) : State := modifyPort q (fun x => { x with pins := x.pins ++ [n] }) s

/-- How many pins a port holds, its pending requested sweep counted (R23). -/
def State.pinCount (s : State) (q : Port) : Nat :=
  (s.ports.get q).pins.length + (if s.pendingSweep q = 0 then 0 else 1)

/-- Pin Sweep judged on the state (R30). -/
def judgePinSweep (q : Port) (body : List Byte) : State → Reply :=
  checked .pinSweep q (body.length == 4) (fun s =>
    match s.seq.named (ofBytes body) with
    | none => refuse .noRecord s
    | some r =>
      if r.number ∈ (s.ports.get q).pins then accept (bytes4 r.number) s
      else if Config.pinLimit ≤ s.pinCount q then refuse .limit s
      else accept (bytes4 r.number) (addPin q r.number s))

/-- A pin removed from a port (R32). -/
def dropPin (q : Port) (n : Nat) (s : State) : State :=
  modifyPort q (fun x => { x with pins := x.pins.filter (fun k => k != n) }) s

/-- Unpin Sweep judged on the state (R32). -/
def judgeUnpinSweep (q : Port) (body : List Byte) : State → Reply :=
  checked .unpinSweep q (body.length == 4) (fun s =>
    if ofBytes body ∈ (s.ports.get q).pins then accept [] (dropPin q (ofBytes body) s) else refuse .noRecord s)

/-! ### Read Sweep (R34, R35, Table 2-5) -/

/-- The parts of a record (R34). -/
inductive Part where
  | header
  | positions (first : Nat)
  | groups
deriving DecidableEq, Repr

/-- The part of a code (Table 10-7). -/
def Part.ofCode : Nat → Option Part
  | 1 => some .header
  | 2 => some (.positions 0)
  | 3 => some (.positions 8)
  | 4 => some (.positions 16)
  | 5 => some .groups
  | _ => none

/-- A position's fields in a Read Sweep answer; absence codes 0 for X and −32768 for D (R35). -/
def posEntryBytes (e : PosEntry) : List Byte :=
  signed2 e.mean ++ [byte e.saturation.code, byte e.condition.code, byte ((e.cls.map Class.code).getD 0)]
    ++ bytes2 ((e.expected.getD 0).toNat) ++ signed2 (e.deviation.getD (-32768))

/-- A group's fields in a Read Sweep answer; absence code −32768 for the median (R35). -/
def groupEntryBytes (e : GroupEntry) : List Byte :=
  [byte e.members, byte e.eligible] ++ signed2 (e.median.getD (-32768)) ++ [flagByte e.dim]

/-- The fields of a part of a record (Table 2-5). -/
def partBytes (r : SweepRecord) : Part → List Byte
  | .header => byte r.origin.code :: bytes4 r.startUptime ++ bytes2 (r.leakage.getD 0) ++ [byte (if r.assessed then 2 else 1)]
  | .positions first => ((r.entries.drop first).take 8).flatMap posEntryBytes
  | .groups => r.groups.flatMap groupEntryBytes

/-- The sweep number and part code of a Read Sweep body. -/
def sweepAndPart (body : List Byte) : Nat × Nat := (ofBytes (body.take 4), ofBytes (body.drop 4))

/-- Read Sweep judged on the state (R34). -/
def judgeReadSweep (q : Port) (body : List Byte) : State → Reply :=
  checked .readSweep q (body.length == 5 && (Part.ofCode (sweepAndPart body).2).isSome) (fun s =>
    match s.seq.find (sweepAndPart body).1, Part.ofCode (sweepAndPart body).2 with
    | some r, some part =>
      if r.number ∈ (s.ports.get q).pins then
        accept (bytes4 r.number ++ byte (sweepAndPart body).2 :: partBytes r part) s
      else refuse .noRecord s
    | _, _ => refuse .noRecord s)

/-! ### The meanings -/

/-- READ_STATUS (R163). -/
def execReadStatus (q : Port) (station : Byte) (body : List Byte) (s : State) : Host.Outcome State Fault Refusal :=
  .next (receiveRequest q station Request.readStatus.code body (judgeReadStatus q body) s)

/-- READ_POSITION (R164). -/
def execReadPosition (q : Port) (station : Byte) (body : List Byte) (s : State) : Host.Outcome State Fault Refusal :=
  .next (receiveRequest q station Request.readPosition.code body (judgeReadPosition q body) s)

/-- READ_MAP (R165). -/
def execReadMap (q : Port) (station : Byte) (body : List Byte) (s : State) : Host.Outcome State Fault Refusal :=
  .next (receiveRequest q station Request.readMap.code body (judgeReadMap q body) s)

/-- READ_WALK (R165). -/
def execReadWalk (q : Port) (station : Byte) (body : List Byte) (s : State) : Host.Outcome State Fault Refusal :=
  .next (receiveRequest q station Request.readWalk.code body (judgeReadWalk q body) s)

/-- REQUEST_SWEEP (R23). -/
def execRequestSweep (q : Port) (station : Byte) (body : List Byte) (s : State) : Host.Outcome State Fault Refusal :=
  .next (receiveRequest q station Request.requestSweep.code body (judgeRequestSweep q body) s)

/-- PIN_SWEEP (R30). -/
def execPinSweep (q : Port) (station : Byte) (body : List Byte) (s : State) : Host.Outcome State Fault Refusal :=
  .next (receiveRequest q station Request.pinSweep.code body (judgePinSweep q body) s)

/-- READ_SWEEP (R34). -/
def execReadSweep (q : Port) (station : Byte) (body : List Byte) (s : State) : Host.Outcome State Fault Refusal :=
  .next (receiveRequest q station Request.readSweep.code body (judgeReadSweep q body) s)

/-- UNPIN_SWEEP (R32). -/
def execUnpinSweep (q : Port) (station : Byte) (body : List Byte) (s : State) : Host.Outcome State Fault Refusal :=
  .next (receiveRequest q station Request.unpinSweep.code body (judgeUnpinSweep q body) s)

end Sys2Proof.Machine
end

