-- ==== Sys2Proof/Machine/Holds.lean ====
section
/-! DEFINITION. The hold requests (R90, R91), Clear Fault (R77), Clear Switch (R118), Start Locate (R137) and Fetch
Notices (R155). -/

namespace Sys2Proof.Machine

/-! ### Place Hold and Release Hold (R90, R91) -/

/-- Whether a body is a position mask that names a position (R90, step 1). -/
def isMask (body : List Byte) : Bool := body.length == 3 && !(maskPositions body).isEmpty

/-- The port's holder put at the positions named, or taken out of them, in one change; the answer carries the positions
changed (R90, R91). -/
def holdRequest (b : Bool) (q : Port) (body : List Byte) (s : State) : Reply :=
  if (maskPositions body).any (fun p => s.role p != .switched) then refuse .notSwitched s
  else
    accept (maskBytes (fun p => (maskPositions body).contains p && alters (portHolder q) b s p))
      (changeHolds (portHolder q) b none (maskPositions body) s)

/-- Place Hold judged on the state (R90). -/
def judgePlaceHold (q : Port) (body : List Byte) : State → Reply :=
  checked .placeHold q (isMask body) (holdRequest true q body)

/-- Release Hold judged on the state (R91). -/
def judgeReleaseHold (q : Port) (body : List Byte) : State → Reply :=
  checked .releaseHold q (isMask body) (holdRequest false q body)

/-! ### Clear Fault (R77) -/

/-- FAULT removed for a record that has returned to CLEAR from `old`, the notice and mark of that departure, and then
the walk (R77, R143, R152; log entry 28). -/
def removeFault (p : Pos) (old : QualRecord) (s : State) : State :=
  reclosingAfter .fault false [p] s
    (markUnlatched old (emitCleared p old (changeHolder .fault false none [p] s)))

/-- A record that is not CLEAR returned to CLEAR and FAULT removed, with the notice and mark of the departure (R77). -/
def clearFault (p : Pos) (s : State) : State :=
  if (s.pos p).qual.state = .clear then s
  else removeFault p (s.pos p).qual (setQual p (QualRecord.cleared s.settings.trialCount) s)

/-- Clear Fault judged on the state (R77). -/
def judgeClearFault (q : Port) (body : List Byte) : State → Reply :=
  checked .clearFault q (bodyPosition body).isSome (fun s =>
    match bodyPosition body with
    | some p => accept [] (clearFault p s)
    | none => refuse .badBody s)

/-! ### Clear Switch (R118) -/

/-- The condition an auxiliary contact reads (R104). -/
def readContact (c : Contacts) (p : Pos) : Condition := if c.closed p then .closed else .opened

/-- A switch in a switch fault read afresh (R118). -/
def clearSwitch (c : Contacts) (p : Pos) (s : State) : State :=
  if (s.pos p).condition.isFault then
    conditionReport p (readContact c p)
      (emit .switch .clear (some p) (.condition (readContact c p))
        (setResidual p 0 (setCondition p (readContact c p) s)))
  else s

/-- Clear Switch judged on the state (R118). -/
def judgeClearSwitch (c : Contacts) (q : Port) (body : List Byte) : State → Reply :=
  checked .clearSwitch q (bodyPosition body).isSome (fun s =>
    match bodyPosition body with
    | some p => accept [byte ((clearSwitch c p s).pos p).condition.code] (clearSwitch c p s)
    | none => refuse .badBody s)

/-! ### Start Locate (R137) -/

/-- The walk origin of a port's Start Locate (R137). Link P is refused before this is read. -/
def walkOriginOf : Port → WalkOrigin
  | .service => .service
  | _ => .site

/-- Start Locate judged on the state (R137). -/
def judgeStartLocate (q : Port) (body : List Byte) : State → Reply :=
  checked .startLocate q body.isEmpty (fun s =>
    if s.walk.state ≠ .idle then refuse .busy s
    else if s.safety.state ≠ .armed then refuse .safetyActive s
    else accept [byte s.candidates.length] (startWalk (walkOriginOf q) s))

/-! ### Fetch Notices (R155, Table 9-2) -/

/-- A notice in a Fetch Notices answer (Table 9-2). -/
def noticeBytes (n : Notice) : List Byte :=
  [byte (kindCode n.kind), byte n.edge.code, byte ((n.position.map Pos.number).getD 0), byte n.detail.code]
    ++ bytes4 n.sweep ++ bytes4 n.uptime

/-- The body of a Fetch Notices answer after Status (Table 9-2). -/
def fetchBody (x : PortState) : List Byte :=
  [byte (x.notices.take Config.fetchLimit).length, byte (x.notices.drop Config.fetchLimit).length, flagByte x.overflow]
    ++ (x.notices.take Config.fetchLimit).flatMap noticeBytes

/-- Up to 16 notices taken from a port's queue and its overflow flag cleared (R155). -/
def fetchNotices (q : Port) (s : State) : State :=
  modifyPort q (fun x => { x with notices := x.notices.drop Config.fetchLimit, overflow := false }) s

/-- Fetch Notices judged on the state (R155). -/
def judgeFetchNotices (q : Port) (body : List Byte) : State → Reply :=
  checked .fetchNotices q body.isEmpty (fun s => accept (fetchBody (s.ports.get q)) (fetchNotices q s))

/-! ### The meanings -/

/-- PLACE_HOLD (R90). -/
def execPlaceHold (q : Port) (station : Byte) (body : List Byte) (s : State) : Host.Outcome State Fault Refusal :=
  .next (conclude s (receiveRequest q station Request.placeHold.code body (judgePlaceHold q body) s))

/-- RELEASE_HOLD (R91). -/
def execReleaseHold (q : Port) (station : Byte) (body : List Byte) (s : State) : Host.Outcome State Fault Refusal :=
  .next (conclude s (receiveRequest q station Request.releaseHold.code body (judgeReleaseHold q body) s))

/-- CLEAR_FAULT (R77). -/
def execClearFault (q : Port) (station : Byte) (body : List Byte) (s : State) : Host.Outcome State Fault Refusal :=
  .next (conclude s (receiveRequest q station Request.clearFault.code body (judgeClearFault q body) s))

/-- CLEAR_SWITCH (R118). -/
def execClearSwitch (q : Port) (station : Byte) (body : List Byte) (c : Contacts) (s : State) :
    Host.Outcome State Fault Refusal :=
  .next (conclude s (receiveRequest q station Request.clearSwitch.code body (judgeClearSwitch c q body) s))

/-- START_LOCATE (R137). -/
def execStartLocate (q : Port) (station : Byte) (body : List Byte) (s : State) : Host.Outcome State Fault Refusal :=
  .next (conclude s (receiveRequest q station Request.startLocate.code body (judgeStartLocate q body) s))

/-- FETCH_NOTICES (R155). -/
def execFetchNotices (q : Port) (station : Byte) (body : List Byte) (s : State) : Host.Outcome State Fault Refusal :=
  .next (receiveRequest q station Request.fetchNotices.code body (judgeFetchNotices q body) s)

end Sys2Proof.Machine
end

