-- ==== Sys2Proof/Machine/SettingWrites.lean ====
section
/-! DEFINITION. Read Setting and Write Setting with every row's own effect (R7 to R13, R22, R55, R57, R81, R121, R127,
R134, R149, R153, R157, R167), Save Settings (R168) and Reset Ratio (R57). -/

namespace Sys2Proof.Machine

/-! ### Role changes (R8 to R11) -/

/-- Whether a role change away from SWITCHED is refused (R8). -/
def roleChangeRefused (p : Pos) (s : State) : Bool :=
  (s.pos p).condition != .opened || (s.pos p).holds.lockout || (s.pos p).holds.locate

/-- The role of a position in the working copy replaced. -/
def setRole (p : Pos) (r : Role) (s : State) : State :=
  { s with settings := { s.settings with role := s.settings.role.set p r } }

/-- The HOLD CLEAR notice of a holder that a role change removes (R9). -/
def emitRemoved (p : Pos) (h : Holder) (old : HoldSet) (s : State) : State :=
  if old.has h then emit .hold .clear (some p) (.holder h) s else s

/-- What a role change away from SWITCHED keeps for the position: hold set, fault reason, qualifier record and residual
counter as R9 leaves them. The time of the last hold change is set as R9 says, where the hold set was empty too, which
R85 would leave (log entry 30). -/
def unswitched (trials uptime : Nat) (x : PosState) : PosState :=
  { x with
    holds := HoldSet.empty, reason := none, lastChange := uptime, qual := QualRecord.cleared trials, residual := 0 }

/-- An accepted role change away from SWITCHED (R9). The report of ABSENT goes to the walk (R88). -/
def leaveSwitching (p : Pos) (r : Role) (s : State) : State :=
  let old := s.pos p
  walkReport p .absent
    (markUnlatched old.qual
      (emitCleared p old.qual
        (emitRemoved p .site old.holds
          (emitRemoved p .plant old.holds
            ((setCondition p .absent (removeOrder p (setRole p r s))).modify p
              (unswitched s.settings.trialCount s.uptime))))))

/-- The qualifier record and residual counter of a position whose role changes while it is not SWITCHED, with the FAULT
CLEAR notice of a REPORTED record (R10, R11). -/
def clearRecord (p : Pos) (s : State) : State :=
  emitCleared p (s.pos p).qual (setResidual p 0 (setQual p (QualRecord.cleared s.settings.trialCount) s))

/-- SAFETY placed on a position that becomes SWITCHED outside ARMED, without a notice (R10). -/
def placeSafetyOn (p : Pos) (s : State) : State :=
  if s.safety.state = .armed ∨ (s.pos p).holds.safety = true then s else putHolder .safety true none p s

/-- The hold set of a position that becomes SWITCHED starts empty (R10). -/
def startEmpty (p : Pos) (s : State) : State :=
  s.modify p (fun x => { x with holds := HoldSet.empty, reason := none })

/-- A role change to SWITCHED (R10): the contact is read, the hold set starts empty or with SAFETY, the record is
cleared, and the position is reconciled. -/
def enterSwitching (c : Contacts) (p : Pos) (s : State) : State :=
  conditionReport p (readContact c p)
    (clearRecord p (placeSafetyOn p (startEmpty p (setCondition p (readContact c p) (setRole p .switched s)))))

/-- A role change that has passed the check that its value differs from the role standing; none when R8 refuses it. -/
def changeRole (c : Contacts) (p : Pos) (r : Role) (s : State) : Option State :=
  match s.role p, r with
  | .switched, _ => if roleChangeRefused p s then none else some (leaveSwitching p r s)
  | _, .switched => some (enterSwitching c p s)
  | _, _ => some (clearRecord p (setRole p r s))

/-! ### The effect of a write that changes a setting (R167) -/

/-- The working copy with a setting replaced. -/
def putSetting (x : Setting) (v : Nat) (s : State) : State := { s with settings := s.settings.put x v }

/-- The effect of a changed numeric setting on standing state: the routine timer restarts (R22, log entry 27), trials
remaining and recheck timers are limited (R81), and a station address reaches an IDLE receiver (R157). -/
def afterNumber (n : Number) (v : Nat) (s : State) : State :=
  match n with
  | .routineInterval => { s with seq := { s.seq with routineDue := s.now / 1000 + v } }
  | .trialCount =>
    { s with positions := s.positions.map (fun x => { x with qual := { x.qual with trials := min x.qual.trials v } }) }
  | .recheckInterval =>
    { s with positions := s.positions.map (fun x =>
        { x with qual := { x.qual with timer := x.qual.timer.map (fun t => min t v) } }) }
  | .stationP => applyIfIdle .p s
  | .stationS => applyIfIdle .s s
  | _ => s

/-- A write that changes a setting, taken (R167): the new state, or none for a role change that R8 refuses. -/
def changeSetting (c : Contacts) (x : Setting) (v : Nat) (s : State) : Option State :=
  match x with
  | .role p => changeRole c p ((Role.ofCode v).getD (s.role p)) s
  | .peerGroup p => some (setRatio p Config.unitRatio (putSetting x v s))
  | .number n => some (afterNumber n v (putSetting x v s))
  | .speed l => some (applyIfIdle l (putSetting x v s))
  | _ => some (putSetting x v s)

/-! ### Read Setting and Write Setting (R167) -/

/-- The code, index and value of a setting, as both answers carry them (R167). -/
def settingBody (code index : Byte) (x : Setting) (s : State) : List Byte :=
  code :: index :: bytes2 (s.settings.value x)

/-- The setting that the code and index of a body name, when the body has the given length. -/
def bodySetting (len : Nat) (body : List Byte) : Option Setting :=
  if body.length = len then Setting.ofCode (body.getD 0 0).toNat (body.getD 1 0).toNat else none

/-- Read Setting judged on the state (R167). -/
def judgeReadSetting (q : Port) (body : List Byte) : State → Reply :=
  checked .readSetting q (bodySetting 2 body).isSome (fun s =>
    match bodySetting 2 body with
    | some x => accept (settingBody (body.getD 0 0) (body.getD 1 0) x s) s
    | none => refuse .badBody s)

/-- The setting and the applied value of a Write Setting body, none when it is refused with BAD_BODY (R167). -/
def bodyWrite (body : List Byte) : Option (Setting × Nat) :=
  match bodySetting 4 body with
  | some x => (x.applied (ofBytes (body.drop 2))).map (fun v => (x, v))
  | none => none

/-- A write of an applied value to a setting (R7, R167): a value that stands already changes nothing, and the answer
reports the value now in the working copy. -/
def writeApplied (c : Contacts) (code index : Byte) (x : Setting) (v : Nat) (s : State) : Reply :=
  if v = s.settings.value x then accept (settingBody code index x s) s
  else
    match changeSetting c x v s with
    | some s' => accept (settingBody code index x s') s'
    | none => refuse .notIsolated s

/-- Write Setting judged on the state (R167). -/
def judgeWriteSetting (c : Contacts) (q : Port) (body : List Byte) : State → Reply :=
  checked .writeSetting q (bodyWrite body).isSome (fun s =>
    match bodyWrite body with
    | some (x, v) => writeApplied c (body.getD 0 0) (body.getD 1 0) x v s
    | none => refuse .badBody s)

/-- A Write Setting frame of a code, index and value arriving at a port. The contacts are read by a role change
alone. -/
def receiveWrite (c : Contacts) (q : Port) (station : Byte) (code : Nat) (index : Byte) (value : Half) (s : State) :
    State :=
  receiveRequest q station Request.writeSetting.code (byte code :: index :: bytes2 value.toNat)
    (judgeWriteSetting c q (byte code :: index :: bytes2 value.toNat)) s

/-- The contacts handed to a write that reads none. -/
def noContacts : Contacts := 0

/-! ### Save Settings and Reset Ratio (R57, R168) -/

/-- A save accepted: the whole working copy is its snapshot, and it waits for the store (R168). -/
def queueSave (s : State) : State :=
  { s with store := { s.store with waiting := s.store.waiting ++ [.save s.settings] } }

/-- Save Settings judged on the state (R168). -/
def judgeSaveSettings (q : Port) (body : List Byte) : State → Reply :=
  checked .saveSettings q body.isEmpty (fun s =>
    if s.store.saving then refuse .busy s else accept [] (queueSave s))

/-- Reset Ratio judged on the state (R57). -/
def judgeResetRatio (q : Port) (body : List Byte) : State → Reply :=
  checked .resetRatio q (bodyPosition body).isSome (fun s =>
    match bodyPosition body with
    | some p => accept [] (setRatio p Config.unitRatio s)
    | none => refuse .badBody s)

/-! ### The meanings -/

/-- READ_SETTING (R167). -/
def execReadSetting (q : Port) (station : Byte) (body : List Byte) (s : State) : Host.Outcome State Fault Refusal :=
  .next (receiveRequest q station Request.readSetting.code body (judgeReadSetting q body) s)

/-- WRITE_SETTING (R167), with a body that names any setting or none: the rows below are the same request with the
code fixed. -/
def execWriteSetting (q : Port) (station : Byte) (body : List Byte) (c : Contacts) (s : State) :
    Host.Outcome State Fault Refusal :=
  .next (conclude s (receiveRequest q station Request.writeSetting.code body (judgeWriteSetting c q body) s))

/-- WRITE_ROLE (R7 to R11). -/
def execWriteRole (q : Port) (station : Byte) (index : Byte) (value : Half) (c : Contacts) (s : State) :
    Host.Outcome State Fault Refusal :=
  .next (conclude s (receiveWrite c q station 0x20 index value s))

/-- WRITE_PEER_GROUP (R12). -/
def execWritePeerGroup (q : Port) (station : Byte) (index : Byte) (value : Half) (s : State) :
    Host.Outcome State Fault Refusal :=
  .next (receiveWrite noContacts q station 0x21 index value s)

/-- WRITE_EXCLUSION_FLAG (R13). -/
def execWriteExclusionFlag (q : Port) (station : Byte) (index : Byte) (value : Half) (s : State) :
    Host.Outcome State Fault Refusal :=
  .next (receiveWrite noContacts q station 0x22 index value s)

/-- WRITE_BLEND_WEIGHT (R13). -/
def execWriteBlendWeight (q : Port) (station : Byte) (index : Byte) (value : Half) (s : State) :
    Host.Outcome State Fault Refusal :=
  .next (receiveWrite noContacts q station 0x28 index value s)

/-- WRITE_ROUTINE_INTERVAL (R22). -/
def execWriteRoutineInterval (q : Port) (station : Byte) (index : Byte) (value : Half) (s : State) :
    Host.Outcome State Fault Refusal :=
  .next (receiveWrite noContacts q station 0x01 index value s)

/-- WRITE_QUALIFIER_SETTING (R81). -/
def execWriteQualifierSetting (q : Port) (station : Byte) (which : QualifierSetting) (index : Byte) (value : Half)
    (s : State) : Host.Outcome State Fault Refusal :=
  .next (receiveWrite noContacts q station (qualifierCode which) index value s)

/-- WRITE_LEARNING_ENABLE (R55). -/
def execWriteLearningEnable (q : Port) (station : Byte) (index : Byte) (value : Half) (s : State) :
    Host.Outcome State Fault Refusal :=
  .next (receiveWrite noContacts q station 0x10 index value s)

/-- WRITE_SWITCH_TIMING (R121). -/
def execWriteSwitchTiming (q : Port) (station : Byte) (which : TimingSetting) (index : Byte) (value : Half) (s : State) :
    Host.Outcome State Fault Refusal :=
  .next (receiveWrite noContacts q station (timingCode which) index value s)

/-- WRITE_RESTORE_DELAY (R127). -/
def execWriteRestoreDelay (q : Port) (station : Byte) (index : Byte) (value : Half) (s : State) :
    Host.Outcome State Fault Refusal :=
  .next (receiveWrite noContacts q station 0x19 index value s)

/-- WRITE_LEAKAGE_SETTING (R134). -/
def execWriteLeakageSetting (q : Port) (station : Byte) (which : LeakageSetting) (index : Byte) (value : Half)
    (s : State) : Host.Outcome State Fault Refusal :=
  .next (receiveWrite noContacts q station (leakageCode which) index value s)

/-- WRITE_WALK_SETTING (R149). -/
def execWriteWalkSetting (q : Port) (station : Byte) (which : WalkSetting) (index : Byte) (value : Half) (s : State) :
    Host.Outcome State Fault Refusal :=
  .next (receiveWrite noContacts q station (walkCode which) index value s)

/-- WRITE_LINK_SETTING (R157). -/
def execWriteLinkSetting (q : Port) (station : Byte) (which : LinkSetting) (link : Link) (index : Byte) (value : Half)
    (s : State) : Host.Outcome State Fault Refusal :=
  .next (receiveWrite noContacts q station (linkCode which link) index value s)

/-- WRITE_SUBSCRIPTION (R153). -/
def execWriteSubscription (q : Port) (station : Byte) (subscriber : Port) (index : Byte) (value : Half) (s : State) :
    Host.Outcome State Fault Refusal :=
  .next (receiveWrite noContacts q station (subscriptionCode subscriber) index value s)

/-- SAVE_SETTINGS (R168). -/
def execSaveSettings (q : Port) (station : Byte) (body : List Byte) (s : State) : Host.Outcome State Fault Refusal :=
  .next (conclude s (receiveRequest q station Request.saveSettings.code body (judgeSaveSettings q body) s))

/-- RESET_RATIO (R57). -/
def execResetRatio (q : Port) (station : Byte) (body : List Byte) (s : State) : Host.Outcome State Fault Refusal :=
  .next (receiveRequest q station Request.resetRatio.code body (judgeResetRatio q body) s)

end Sys2Proof.Machine
end

