-- ==== Sys2Proof/Machine/StartUp.lean ====
section
/-! DEFINITION. The reset and the start-up sequence (R36, R97, R106, R128, R171, R172). -/

namespace Sys2Proof.Machine

/-- The retained state that stands when neither retained copy is good: no lockouts, no latched positions, and all
ratios 1024 (R171). -/
def Retained.blank : Retained :=
  ⟨Vector.replicate 24 false, Vector.replicate 24 none, Vector.replicate 24 Config.unitRatio⟩

/-- The settings loaded at start-up (R171). -/
def Store.loadedSettings (x : Store) : Settings := x.settingsImage.load.getD Settings.defaults

/-- The retained state loaded at start-up (R171). -/
def Store.loadedRetained (x : Store) : Retained := x.retainedImage.load.getD Retained.blank

/-- Whether the retained state records a position as locked out or LATCHED. -/
def Retained.keepsOpen (r : Retained) (p : Pos) : Bool := r.lockouts.get p || (r.latched.get p).isSome

/-- The loaded settings with every position that the retained state keeps open made SWITCHED (R6; R172, step 1). -/
def settled (st : Settings) (r : Retained) : Settings :=
  { st with role := tabulate (fun p => if r.keepsOpen p then .switched else st.role.get p) }

/-- The qualifier record of a position at start-up: LATCHED with its stored reason, or CLEAR (R60). -/
def startRecord (trials : Nat) (latched : Option Reason) : QualRecord :=
  match latched with
  | some r => { QualRecord.cleared trials with state := .latched, reason := some r }
  | none => QualRecord.cleared trials

/-- The hold set of a position at start-up: LOCKOUT and FAULT as restored, SAFETY where SWITCHED (R97, R128). -/
def startHolds (r : Retained) (role : Role) (p : Pos) : HoldSet :=
  { HoldSet.empty with
    fault := (r.latched.get p).isSome, lockout := r.lockouts.get p, safety := role == .switched }

/-- The condition of a position at start-up (R106). -/
def startCondition (c : Contacts) (role : Role) (p : Pos) : Condition :=
  if role = .switched then readContact c p else .absent

/-- What is kept for a position at start-up, before the reconciliation (R172, steps 2, 3, 4 and 5). -/
def startPosition (c : Contacts) (st : Settings) (r : Retained) (p : Pos) : PosState where
  qual := startRecord st.trialCount (r.latched.get p)
  residual := 0
  holds := startHolds r (st.role.get p) p
  reason := r.latched.get p
  lastChange := 0
  condition := startCondition c (st.role.get p) p
  gate := false
  ratio := r.ratios.get p
  lastClass := none

/-- The Safety Loop unit at start-up (R128). -/
def startSafety (loopClosed : Bool) (st : Settings) : Safety :=
  if loopClosed then ⟨.restoring, some (st.restoreDelay * 1000), true⟩ else ⟨.tripped, none, false⟩

/-- The Retained Store at start-up: the copies stand as the reset left them (R168, R169, R171). -/
def startStore (x : Store) : Store where
  settingsImage := x.settingsImage
  retainedImage := x.retainedImage
  writing := none
  waiting := []
  saveOutcome := .none
  fromImage := x.settingsImage.load.isSome
  retainedValid := x.retainedImage.load.isSome
  ratioSnapshot := x.loadedRetained.ratios

/-- The ports at start-up (R36, R151, R157). -/
def startPorts (st : Settings) : PerPort PortState :=
  ⟨PortState.afterReset st.stationP st.speedP, PortState.afterReset st.stationS st.speedS,
   PortState.afterReset 0 .baud38400⟩

/-- The state at the end of step 6 of the start-up sequence, on given settings and retained state (R172). -/
def startState (c : Contacts) (loopClosed keyOn : Bool) (st : Settings) (r : Retained) (s : State) : State where
  pending := s.pending
  now := 0
  settings := st
  positions := tabulate (startPosition c st r)
  seq := Sequencer.afterReset st.routineInterval
  drive := Drive.afterReset
  safety := startSafety loopClosed st
  leakage := Leakage.afterReset
  walk := Walk.afterReset
  ports := startPorts st
  store := startStore s.store
  nextHour := Config.hour
  key := keyOn

/-- The SWITCHED positions, ascending. -/
def State.switchedPositions (s : State) : List Pos := Pos.all.filter (fun p => s.role p == .switched)

/-- Every SWITCHED position reconciled, and the first batch formed (R172, step 7). -/
def reconcileAll (s : State) : State := formBatch (takeTargets s.switchedPositions s)

/-- The start-up sequence (R171, R172). -/
def startUp (c : Contacts) (loopClosed keyOn : Bool) (s : State) : State :=
  reconcileAll
    (startState c loopClosed keyOn (settled s.store.loadedSettings s.store.loadedRetained) s.store.loadedRetained s)

/-- RESET (R172). Whatever was under way is lost; the store's copies alone stand (R36, R114, R148, R168, R169). -/
def execReset (c : Contacts) (loopClosed keyOn : Bool) (s : State) : Host.Outcome State Fault Refusal :=
  .next (startUp c loopClosed keyOn s)

end Sys2Proof.Machine
end

