-- ==== Sys2Proof/Machine/SafetyEvents.lean ====
section
/-! DEFINITION. The events of the Safety Loop (R122 to R126, R146) and of the Lockout Key (R94). -/

namespace Sys2Proof.Machine

/-- The Safety Loop unit moved to a state, with its restore timer and the settled loop input. -/
def setSafety (a : SafetyState) (due : Option Nat) (loopClosed : Bool) (s : State) : State :=
  { s with safety := ⟨a, due, loopClosed⟩ }

/-- A trip in ARMED: TRIPPED, SAFETY on every SWITCHED position, the notice, then the walk is told (R124, R146; log entry
13). -/
def trip (s : State) : State :=
  abandonWalk
    (emit .safety .set none .absent
      (changeHolder .safety true none s.switchedPositions (setSafety .tripped none false s)))

/-- LOOP_OPENING (R124). In TRIPPED a loop opening cannot come about, because loop events alternate (R122). -/
def execLoopOpening (s : State) : Host.Outcome State Fault Refusal :=
  match s.safety.state with
  | .armed => .next (conclude s (trip s))
  | .restoring => .next (setSafety .tripped none false s)
  | .tripped => .next s

/-- LOOP_CLOSING (R125). In ARMED and RESTORING a loop closing cannot come about (R122). -/
def execLoopClosing (s : State) : Host.Outcome State Fault Refusal :=
  match s.safety.state with
  | .tripped => .next (setSafety .restoring (some (s.now + s.settings.restoreDelay * 1000)) true s)
  | .armed => .next s
  | .restoring => .next s

/-- SAFETY removed from every position, SAFETY CLEAR, and then the walk (R126, R143, R152; log entry 28). -/
def removeSafety (s : State) : State :=
  reclosingAfter .safety false Pos.all s
    (emit .safety .clear none .absent (changeHolder .safety false none Pos.all s))

/-- The return to ARMED: SAFETY leaves every position and SAFETY CLEAR is produced (R126). -/
def restore (s : State) : State := removeSafety (setSafety .armed none true s)

/-- RESTORE_TIMER_EXPIRY (R126). The timer runs in RESTORING alone. -/
def execRestoreTimerExpiry (s : State) : Host.Outcome State Fault Refusal :=
  match s.safety.state, s.safety.restoreDue with
  | .restoring, some due => .next (conclude s (restore (advanceTo due s)))
  | _, _ => .next s

/-- KEY_CHANGE (R94). -/
def execKeyChange (keyOn : Bool) (s : State) : Host.Outcome State Fault Refusal := .next { s with key := keyOn }

end Sys2Proof.Machine
end

