-- ==== Sys2Proof/Machine/SweepEvents.lean ====
section
/-! DEFINITION. The events of the Sweep Sequencer: the routine interval timer (R21), the start of a sweep (R26), a string
channel's burst (R17) and the completion of a sweep (R19). -/

namespace Sys2Proof.Machine

/-- Whether a ROUTINE sweep is waiting or running (R21). -/
def State.routineStands (s : State) : Bool := s.seq.routineWaiting || s.runningOrigin == some .routine

/-- The routine interval timer restarted at its expiry: the next one falls an interval later (R21). -/
def rearmRoutine (s : State) : State :=
  { s with seq := { s.seq with routineDue := s.seq.routineDue + s.settings.routineInterval } }

/-- A ROUTINE sweep queued, and started when the converter is free (R21, R26). -/
def queueRoutine (s : State) : State := startNext { s with seq := { s.seq with routineWaiting := true } }

/-- ROUTINE_TIMER_EXPIRY (R21). -/
def execRoutineTimerExpiry (s : State) : Host.Outcome State Fault Refusal :=
  if s.routineStands then .next (rearmRoutine (advanceTo (s.seq.routineDue * 1000) s))
  else .next (queueRoutine (rearmRoutine (advanceTo (s.seq.routineDue * 1000) s)))

/-- SWEEP_START (R26): a waiting sweep takes the free converter. -/
def execSweepStart (s : State) : Host.Outcome State Fault Refusal := .next (startNext s)

/-- CHANNEL_BURST_COMPLETE (R17), for the string channel whose burst runs. -/
def execChannelBurstComplete (v : Samples) (s : State) : Host.Outcome State Fault Refusal :=
  match s.seq.current with
  | some (run, r) => if r.entries.length < 24 then .next (completeBurst v run r s) else .next s
  | none => .next s

/-- SWEEP_COMPLETE (R19), on the samples of the leakage channel. A ROUTINE completion is one event of R110: that its
batch is formed once, after the hold changes of every position, is the model's choice (log entry 33). -/
def execSweepComplete (v : Samples) (s : State) : Host.Outcome State Fault Refusal :=
  match s.seq.current with
  | some (run, r) =>
    if r.entries.length = 24 then .next (conclude s (completeSweep r run (leakageMean v) s)) else .next s
  | none => .next s

end Sys2Proof.Machine
end

