-- ==== Sys2Proof/Machine/QualifierEvents.lean ====
section
/-! DEFINITION. The events of the Fault Qualifier and of the Leakage unit taken alone, and the walk's settle timer. A
routine completion brings the first of these about itself (R19); each of them here is that hand-over to one receiver,
and acts where the hand-over would bring the event about (log entry 7). -/

namespace Sys2Proof.Machine

/-- Whether an abnormal class taken by a position's record declares (R62, R63, R71). -/
def State.declares (s : State) (p : Pos) (c : Abnormal) : Bool :=
  s.role p != .unused && ((s.pos p).qual.state == .clear || (s.pos p).qual.state == .suspect
      || (s.pos p).qual.state == .recheck)
    && decide (s.settings.debounce c ≤ (afterAbnormal c (s.pos p).qual).count)

/-- DECLARATION (R65). -/
def execDeclaration (p : Pos) (c : Abnormal) (s : State) : Host.Outcome State Fault Refusal :=
  if s.declares p c then .next (conclude s (countAbnormal p c s)) else .next s

/-- Whether an inconclusive class taken by a position's record ends its suspicion (R64). -/
def State.abandons (s : State) (p : Pos) : Bool :=
  s.role p != .unused && (s.pos p).qual.state == .suspect
    && decide (s.settings.holdLimit ≤ (s.pos p).qual.holdCount + 1)

/-- SUSPICION_ABANDONED (R64). -/
def execSuspicionAbandoned (p : Pos) (s : State) : Host.Outcome State Fault Refusal :=
  if s.abandons p then .next (holdSuspicion p s) else .next s

/-- Whether a routine completion brings a position's recheck timer to 0 (R69, R70). -/
def State.timesOut (s : State) (p : Pos) : Bool :=
  s.role p != .unused && (s.pos p).qual.state == .waiting
    && (match (s.pos p).qual.timer with | some t => decide (t ≤ 1) | none => false)

/-- RECHECK_TIMER_EXPIRY (R70). -/
def execRecheckTimerExpiry (p : Pos) (s : State) : Host.Outcome State Fault Refusal :=
  if s.timesOut p then .next (conclude s (recheckExpired p s)) else .next s

/-- Whether a NORMAL taken in a state brings the confirm count to its setting (R72, R76). -/
def State.confirms (s : State) (a : QualState) (p : Pos) : Bool :=
  s.role p != .unused && (s.pos p).qual.state == a
    && decide (s.settings.confirmCount ≤ confirmedOnce (s.pos p).qual)

/-- TRIAL_SUCCESS (R72). -/
def execTrialSuccess (p : Pos) (s : State) : Host.Outcome State Fault Refusal :=
  if s.confirms .recheck p then .next (confirmTrial p s) else .next s

/-- REPORTED_RECOVERY (R76). -/
def execReportedRecovery (p : Pos) (s : State) : Host.Outcome State Fault Refusal :=
  if s.confirms .reported p then .next (confirmRecovery p s) else .next s

/-- Whether a raise brings a position's residual counter to the residual debounce (R79, R80). -/
def State.conducts (s : State) (p : Pos) : Bool :=
  s.role p == .switched && decide (s.settings.residualDebounce ≤ raiseResidual (s.pos p).residual)

/-- RESIDUAL_DEBOUNCE_REACHED (R80). -/
def execResidualDebounceReached (p : Pos) (s : State) : Host.Outcome State Fault Refusal :=
  if s.conducts p then .next (conclude s (countResidual p s)) else .next s

/-- Whether the L of a routine sweep brings the alarm into ALARM from RISING (R132, R133). -/
def State.alarmEnters (s : State) (l : Nat) : Bool :=
  decide (s.settings.leakageTrip ≤ l)
    && ((s.leakage.state == .quiet && decide (s.settings.leakageDebounce ≤ 1))
      || (s.leakage.state == .rising && decide (s.settings.leakageDebounce ≤ s.leakage.count + 1)))

/-- LEAKAGE_ALARM_ENTRY (R133, R135). -/
def execLeakageAlarmEntry (l : BitVec 12) (s : State) : Host.Outcome State Fault Refusal :=
  if s.alarmEnters l.toNat then .next (takeLeakage l.toNat s) else .next s

/-- Whether the L of a routine sweep brings the alarm into QUIET from FALLING (R132, R133). -/
def State.alarmClears (s : State) (l : Nat) : Bool :=
  decide (l < s.settings.leakageTrip) && decide (l ≤ clearValue s.settings.leakageTrip)
    && ((s.leakage.state == .alarm && decide (s.settings.leakageDebounce ≤ 1))
      || (s.leakage.state == .falling && decide (s.settings.leakageDebounce ≤ s.leakage.count + 1)))

/-- LEAKAGE_ALARM_CLEAR (R133). -/
def execLeakageAlarmClear (l : BitVec 12) (s : State) : Host.Outcome State Fault Refusal :=
  if s.alarmClears l.toNat then .next (takeLeakage l.toNat s) else .next s

/-- The walk moved from SETTLING into MEASURING (R141). -/
def enterMeasuring (s : State) : State :=
  requestLocate { s with walk := { s.walk with state := .measuring, settleDue := none } }

/-- SETTLE_TIMER_EXPIRY (R141). The timer runs in SETTLING alone. -/
def execSettleTimerExpiry (s : State) : Host.Outcome State Fault Refusal :=
  match s.walk.state, s.walk.settleDue with
  | .settling, some due => .next (enterMeasuring (advanceTo due s))
  | _, _ => .next s

end Sys2Proof.Machine
end

