-- ==== Sys2Proof/Machine/BatchEvents.lean ====
section
/-! DEFINITION. The events of a batch in the order of Table 6-3 (R110 to R112). An event that is not the batch's next
one cannot come about, and changes nothing (log entries 4 and 17). -/

namespace Sys2Proof.Machine

/-- BATCH_START (R110). -/
def execBatchStart (s : State) : Host.Outcome State Fault Refusal := .next (formBatch s)

/-- The batch in flight at T1 (R111). -/
def settleBatch (b : Batch) (s : State) : State := setBatch b.settle (advanceTo (b.start + b.bypassSettle) s)

/-- BYPASS_SETTLE_EXPIRY (R111). -/
def execBypassSettleExpiry (s : State) : Host.Outcome State Fault Refusal :=
  match s.drive.batch with
  | some b => if b.awaitsSettle then .next (settleBatch b s) else .next s
  | none => .next s

/-- The reset pulses of the batch in flight end (R102, R111). -/
def endReset (b : Batch) (s : State) : State :=
  setBatch { b with resetPulse := .done } (advanceTo (b.start + b.bypassSettle + Config.coilPulse) s)

/-- The set pulses of the batch in flight end (R102, R111). -/
def endSet (b : Batch) (s : State) : State :=
  setBatch { b with setPulse := .done } (advanceTo (b.start + b.setStart + Config.coilPulse) s)

/-- COIL_PULSE_END (R111). -/
def execCoilPulseEnd (s : State) : Host.Outcome State Fault Refusal :=
  match s.drive.batch with
  | some b =>
    if b.awaitsResetEnd then .next (endReset b s)
    else if b.awaitsSetEnd then .next (endSet b s)
    else .next s
  | none => .next s

/-- The set pulses of a mixed batch begin at T1 + TNO (R111). -/
def beginSet (b : Batch) (s : State) : State :=
  setBatch { b with setPulse := .on } (advanceTo (b.start + b.setStart) s)

/-- NON_OVERLAP_EXPIRY (R111). -/
def execNonOverlapExpiry (s : State) : Host.Outcome State Fault Refusal :=
  match s.drive.batch with
  | some b => if b.awaitsNonOverlap then .next (beginSet b s) else .next s
  | none => .next s

/-- BATCH_COMPLETION (R112), at T2 after the last pulse. -/
def execBatchCompletion (c : Contacts) (s : State) : Host.Outcome State Fault Refusal :=
  match s.drive.batch with
  | some b =>
    if b.pulsesDone then .next (conclude s (completeBatch c b (advanceTo (b.start + b.completion) s))) else .next s
  | none => .next s

end Sys2Proof.Machine
end

