-- ==== Sys2Proof/Machine/StoreEvents.lean ====
section
/-! DEFINITION. The events of the Retained Store: the hourly ratio mark (R56), and the starts and completions of the two
writes (R168 to R170). -/

namespace Sys2Proof.Machine

/-- The learned ratios copied into the ratio snapshot, and the next mark an hour later (R56). -/
def snapshotRatios (s : State) : State :=
  { s with
    store := { s.store with ratioSnapshot := tabulate (fun p => (s.pos p).ratio) }
    nextHour := s.nextHour + Config.hour }

/-- HOURLY_RATIO_MARK (R56). -/
def execHourlyRatioMark (s : State) : Host.Outcome State Fault Refusal :=
  .next (conclude s (markRetained (snapshotRatios (advanceTo (s.nextHour * 1000) s))))

/-- SAVE_WRITE_START (R170): a save that is first among the waiting writes takes the free store. -/
def execSaveWriteStart (s : State) : Host.Outcome State Fault Refusal :=
  match s.store.waiting with
  | .save _ :: _ => .next (startWrite s)
  | _ => .next s

/-- SAVE_COMPLETE (R168): the write and read-back of a save end, and the store takes the next write (R170). -/
def execSaveComplete (good : Bool) (s : State) : Host.Outcome State Fault Refusal :=
  match s.store.writing with
  | some (.save k c) => .next (startWrite (endSave k c good s))
  | _ => .next s

/-- RETAINED_WRITE_START (R170): a retained write that is first among the waiting writes takes the free store. -/
def execRetainedWriteStart (s : State) : Host.Outcome State Fault Refusal :=
  match s.store.waiting with
  | .retained :: _ => .next (startWrite s)
  | _ => .next s

/-- RETAINED_WRITE_COMPLETE (R169): the write and read-back of a retained write end, and the store takes the next write
(R170). -/
def execRetainedWriteComplete (good : Bool) (s : State) : Host.Outcome State Fault Refusal :=
  match s.store.writing with
  | some (.retained k c) => .next (startWrite (endRetained k c good s))
  | _ => .next s

end Sys2Proof.Machine
end

