-- ==== Sys2Proof/Machine/Characters.lean ====
section
/-! DEFINITION. The frame receivers, character by character (R158), with the judging of a complete frame (R159) and of
its request by Code (R162), and the discards and errors. -/

namespace Sys2Proof.Machine

/-- A request judged by its Code (R162, Table 10-2). The contacts are read by Clear Switch and by a role change alone. -/
def judgeCode (c : Contacts) (q : Port) (code : Byte) (body : List Byte) : State → Reply :=
  match Request.ofCode code with
  | none => refuse .unknownRequest
  | some .readStatus => judgeReadStatus q body
  | some .readPosition => judgeReadPosition q body
  | some .readMap => judgeReadMap q body
  | some .requestSweep => judgeRequestSweep q body
  | some .pinSweep => judgePinSweep q body
  | some .readSweep => judgeReadSweep q body
  | some .unpinSweep => judgeUnpinSweep q body
  | some .placeHold => judgePlaceHold q body
  | some .releaseHold => judgeReleaseHold q body
  | some .clearFault => judgeClearFault q body
  | some .clearSwitch => judgeClearSwitch c q body
  | some .startLocate => judgeStartLocate q body
  | some .readWalk => judgeReadWalk q body
  | some .fetchNotices => judgeFetchNotices q body
  | some .readSetting => judgeReadSetting q body
  | some .writeSetting => judgeWriteSetting c q body
  | some .saveSettings => judgeSaveSettings q body
  | some .resetRatio => judgeResetRatio q body

/-- The receiver of a port in RECEIVING, with the characters taken since Lead. -/
def receiving (q : Port) (got : List Byte) (s : State) : State :=
  modifyPort q (fun x => { x with receiver := .receiving got }) s

/-- A Length that discards its frame at once: 0, or above 248 (R158). -/
def badLength (length : Byte) : Bool := decide (length.toNat = 0) || decide (Config.maxLength < length.toNat)

/-- Whether the characters after Lead spell a whole frame: Station, Length, as many characters as Length says, and two of
Check (R158). -/
def frameComplete (chars : List Byte) : Bool := decide (chars.length = (chars.getD 1 0).toNat + 4)

/-- The Station to the end of Body of a whole frame. -/
def checkedPart (chars : List Byte) : List Byte := chars.take (chars.length - 2)

/-- The two Check characters of a whole frame, high byte first. -/
def checkPart (chars : List Byte) : Nat := ofBytes (chars.drop (chars.length - 2))

/-- A whole frame judged: discarded when its Check does not match or it is for another station, else its request is taken
(R158, R159). -/
def judgeChars (c : Contacts) (q : Port) (chars : List Byte) (s : State) : State :=
  if (crc16 (checkedPart chars)).toNat = checkPart chars then
    judgeFrame q (chars.getD 0 0) (chars.getD 2 0)
      (judgeCode c q (chars.getD 2 0) ((checkedPart chars).drop 3)) s
  else toIdle q s

/-- The characters of a frame so far, with the newest one: discarded on a bad Length, judged when whole, else kept
(R158). -/
def takeChars (c : Contacts) (q : Port) (chars : List Byte) (s : State) : State :=
  if chars.length = 2 then
    if badLength (chars.getD 1 0) then toIdle q s else receiving q chars s
  else if 2 < chars.length ∧ frameComplete chars = true then judgeChars c q chars s
  else receiving q chars s

/-- A character as a port's receiver takes it (R158). -/
def takeChar (c : Contacts) (q : Port) (char : Byte) (s : State) : State :=
  match (s.ports.get q).receiver with
  | .idle => if char = Config.lead then receiving q [] s else s
  | .receiving got => takeChars c q (got ++ [char]) s
  | .answering => s

/-- CHARACTER_RECEIVED (R158). -/
def execCharacterReceived (q : Port) (char : Byte) (c : Contacts) (s : State) : Host.Outcome State Fault Refusal :=
  .next (conclude s (takeChar c q char s))

/-- UNKNOWN_REQUEST_CODE (R162, step 1). A Code that names a request is another row's. -/
def execUnknownRequestCode (q : Port) (station code : Byte) (body : List Byte) (s : State) :
    Host.Outcome State Fault Refusal :=
  if (Request.ofCode code).isSome then .next s
  else .next (receiveRequest q station code body (refuse .unknownRequest) s)

/-- Whether a whole frame is discarded on a port: its Check does not match, or its Station is not accepted (R158). -/
def frameRefused (q : Port) (x : PortState) (station : Byte) (payload : List Byte) (check : Half) : Bool :=
  decide (crc16 (frameHead station payload) ≠ check) || !stationAccepted q x station

/-- FRAME_DISCARDED (R158): a whole frame with a Length of 1 to 248 that fails the Check or the Station test. -/
def execFrameDiscarded (q : Port) (station : Byte) (payload : List Byte) (check : Half) (s : State) :
    Host.Outcome State Fault Refusal :=
  if payload ≠ [] ∧ payload.length ≤ Config.maxLength
      ∧ arrives (s.ports.get q) (frameTail station payload check) = true
      ∧ frameRefused q (s.ports.get q) station payload check = true then .next (toIdle q s)
  else .next s

/-- LENGTH_DISCARD (R158). -/
def execLengthDiscard (q : Port) (station length : Byte) (s : State) : Host.Outcome State Fault Refusal :=
  if badLength length = true ∧ arrives (s.ports.get q) [station, length] = true then .next (toIdle q s) else .next s

/-- A frame in progress on a port discarded (R158). -/
def discardFrame (q : Port) (s : State) : State :=
  match (s.ports.get q).receiver with
  | .receiving _ => toIdle q s
  | .idle => s
  | .answering => s

/-- CHARACTER_GAP_TIMEOUT (R158): a silent gap longer than 5 ms within a frame. -/
def execCharacterGapTimeout (q : Port) (s : State) : Host.Outcome State Fault Refusal := .next (discardFrame q s)

/-- CHARACTER_ERROR (R158): a character with a missing stop bit. -/
def execCharacterError (q : Port) (s : State) : Host.Outcome State Fault Refusal := .next (discardFrame q s)

/-- ANSWER_SENT (R158). -/
def execAnswerSent (q : Port) (s : State) : Host.Outcome State Fault Refusal :=
  match (s.ports.get q).receiver with
  | .answering => .next (toIdle q s)
  | .idle => .next s
  | .receiving _ => .next s

end Sys2Proof.Machine
end

