-- ==== Sys2Proof/Machine/Dispatch.lean ====
section
/-! DEFINITION. The dispatch: one meaning for each command. -/

namespace Sys2Proof.Machine

def exec (i : Instr) (s : State) : Host.Outcome State Fault Refusal :=
  match i with
  | .readStatus port station body => Sys2Proof.Machine.execReadStatus port station body s
  | .readPosition port station body => Sys2Proof.Machine.execReadPosition port station body s
  | .readMap port station body => Sys2Proof.Machine.execReadMap port station body s
  | .readWalk port station body => Sys2Proof.Machine.execReadWalk port station body s
  | .requestSweep port station body => Sys2Proof.Machine.execRequestSweep port station body s
  | .pinSweep port station body => Sys2Proof.Machine.execPinSweep port station body s
  | .readSweep port station body => Sys2Proof.Machine.execReadSweep port station body s
  | .unpinSweep port station body => Sys2Proof.Machine.execUnpinSweep port station body s
  | .placeHold port station body => Sys2Proof.Machine.execPlaceHold port station body s
  | .releaseHold port station body => Sys2Proof.Machine.execReleaseHold port station body s
  | .clearFault port station body => Sys2Proof.Machine.execClearFault port station body s
  | .clearSwitch port station body contacts => Sys2Proof.Machine.execClearSwitch port station body contacts s
  | .startLocate port station body => Sys2Proof.Machine.execStartLocate port station body s
  | .fetchNotices port station body => Sys2Proof.Machine.execFetchNotices port station body s
  | .readSetting port station body => Sys2Proof.Machine.execReadSetting port station body s
  | .writeSetting port station body contacts => Sys2Proof.Machine.execWriteSetting port station body contacts s
  | .writeRole port station index value contacts => Sys2Proof.Machine.execWriteRole port station index value contacts s
  | .writePeerGroup port station index value => Sys2Proof.Machine.execWritePeerGroup port station index value s
  | .writeExclusionFlag port station index value => Sys2Proof.Machine.execWriteExclusionFlag port station index value s
  | .writeBlendWeight port station index value => Sys2Proof.Machine.execWriteBlendWeight port station index value s
  | .writeRoutineInterval port station index value => Sys2Proof.Machine.execWriteRoutineInterval port station index value s
  | .writeQualifierSetting port station which index value => Sys2Proof.Machine.execWriteQualifierSetting port station which index value s
  | .writeLearningEnable port station index value => Sys2Proof.Machine.execWriteLearningEnable port station index value s
  | .writeSwitchTiming port station which index value => Sys2Proof.Machine.execWriteSwitchTiming port station which index value s
  | .writeRestoreDelay port station index value => Sys2Proof.Machine.execWriteRestoreDelay port station index value s
  | .writeLeakageSetting port station which index value => Sys2Proof.Machine.execWriteLeakageSetting port station which index value s
  | .writeWalkSetting port station which index value => Sys2Proof.Machine.execWriteWalkSetting port station which index value s
  | .writeLinkSetting port station which link index value => Sys2Proof.Machine.execWriteLinkSetting port station which link index value s
  | .writeSubscription port station subscriber index value => Sys2Proof.Machine.execWriteSubscription port station subscriber index value s
  | .saveSettings port station body => Sys2Proof.Machine.execSaveSettings port station body s
  | .resetRatio port station body => Sys2Proof.Machine.execResetRatio port station body s
  | .frameDiscarded port station payload check => Sys2Proof.Machine.execFrameDiscarded port station payload check s
  | .lengthDiscard port station length => Sys2Proof.Machine.execLengthDiscard port station length s
  | .characterGapTimeout port => Sys2Proof.Machine.execCharacterGapTimeout port s
  | .characterError port => Sys2Proof.Machine.execCharacterError port s
  | .answerSent port => Sys2Proof.Machine.execAnswerSent port s
  | .reset contacts loopClosed keyOn => Sys2Proof.Machine.execReset contacts loopClosed keyOn s
  | .loopOpening => Sys2Proof.Machine.execLoopOpening s
  | .loopClosing => Sys2Proof.Machine.execLoopClosing s
  | .restoreTimerExpiry => Sys2Proof.Machine.execRestoreTimerExpiry s
  | .keyChange keyOn => Sys2Proof.Machine.execKeyChange keyOn s
  | .routineTimerExpiry => Sys2Proof.Machine.execRoutineTimerExpiry s
  | .sweepStart => Sys2Proof.Machine.execSweepStart s
  | .channelBurstComplete samples => Sys2Proof.Machine.execChannelBurstComplete samples s
  | .sweepComplete samples => Sys2Proof.Machine.execSweepComplete samples s
  | .declaration position cls => Sys2Proof.Machine.execDeclaration position cls s
  | .suspicionAbandoned position => Sys2Proof.Machine.execSuspicionAbandoned position s
  | .recheckTimerExpiry position => Sys2Proof.Machine.execRecheckTimerExpiry position s
  | .trialSuccess position => Sys2Proof.Machine.execTrialSuccess position s
  | .reportedRecovery position => Sys2Proof.Machine.execReportedRecovery position s
  | .residualDebounceReached position => Sys2Proof.Machine.execResidualDebounceReached position s
  | .leakageAlarmEntry leakage => Sys2Proof.Machine.execLeakageAlarmEntry leakage s
  | .leakageAlarmClear leakage => Sys2Proof.Machine.execLeakageAlarmClear leakage s
  | .settleTimerExpiry => Sys2Proof.Machine.execSettleTimerExpiry s
  | .batchStart => Sys2Proof.Machine.execBatchStart s
  | .bypassSettleExpiry => Sys2Proof.Machine.execBypassSettleExpiry s
  | .coilPulseEnd => Sys2Proof.Machine.execCoilPulseEnd s
  | .nonOverlapExpiry => Sys2Proof.Machine.execNonOverlapExpiry s
  | .batchCompletion contacts => Sys2Proof.Machine.execBatchCompletion contacts s
  | .hourlyRatioMark => Sys2Proof.Machine.execHourlyRatioMark s
  | .saveWriteStart => Sys2Proof.Machine.execSaveWriteStart s
  | .saveComplete readBackMatches => Sys2Proof.Machine.execSaveComplete readBackMatches s
  | .retainedWriteStart => Sys2Proof.Machine.execRetainedWriteStart s
  | .retainedWriteComplete readBackMatches => Sys2Proof.Machine.execRetainedWriteComplete readBackMatches s
  | .characterReceived port char contacts => Sys2Proof.Machine.execCharacterReceived port char contacts s
  | .unknownRequestCode port station code body => Sys2Proof.Machine.execUnknownRequestCode port station code body s

end Sys2Proof.Machine
end

