-- ==== Sys2Proof/Safety.lean ====
section
/-! DEFINITION. What counts as a safe state, in the terms the statements use: the laws that the manual says hold of every
state (R52, R66, R84, R86, R123, R154, R167), the request that is ready to be taken, and its answer. -/

namespace Sys2Proof.Machine

/-! ### Laws of every state -/

/-- Holds, and a fault reason, exist on SWITCHED positions alone (R84). -/
def HoldsOnSwitched (s : State) : Prop :=
  ∀ p, s.role p ≠ .switched → (s.pos p).holds = HoldSet.empty ∧ (s.pos p).reason = none

/-- The qualifier states in which a SWITCHED position holds FAULT (R66). -/
def QualState.holdsFault : QualState → Bool
  | .declared => true
  | .waiting => true
  | .latched => true
  | _ => false

/-- The qualifier states in which a record has a fault reason (Table 4-1). -/
def QualState.hasReason : QualState → Bool
  | .clear => false
  | .suspect => false
  | _ => true

/-- A SWITCHED position holds FAULT exactly in DECLARED, WAITING and LATCHED (R66), and a position in RECHECK is
SWITCHED and holds nothing (R70, the note to R89). -/
def FaultHeldExactly (s : State) : Prop :=
  ∀ p, (s.role p = .switched → (s.pos p).holds.fault = (s.pos p).qual.state.holdsFault)
    ∧ ((s.pos p).qual.state = .recheck → s.role p = .switched ∧ (s.pos p).holds = HoldSet.empty)

/-- The fault reason of the isolation record is present exactly while FAULT is held, and is then that of the qualifier
record, whose own reason is present as Table 4-1 gives (R83, R86). -/
def ReasonFollowsFault (s : State) : Prop :=
  ∀ p, (s.pos p).reason = (if (s.pos p).holds.fault then (s.pos p).qual.reason else none)
    ∧ (s.pos p).qual.reason.isSome = (s.pos p).qual.state.hasReason

/-- The laws of the isolation and qualifier records together (R66, R84, R86). -/
def IsolationLaws (s : State) : Prop := HoldsOnSwitched s ∧ FaultHeldExactly s ∧ ReasonFollowsFault s

/-- A qualifier record whose fields are present as Table 4-1 gives. -/
def QualRecord.formed (q : QualRecord) : Bool :=
  (q.reason.isSome == q.state.hasReason)
    && (q.timer.isSome == decide (q.state = .waiting))
    && (q.confirm.isSome == decide (q.state = .recheck ∨ q.state = .reported))
    && (q.cls.isSome || decide (q.count = 0))
    && (decide (q.holdCount = 0) || decide (q.state = .suspect))
    && (match q.state with
      | .clear => q.cls.isNone
      | .suspect => q.cls.isSome
      | .declared => q.cls.isSome
      | .reported => q.cls.isSome
      | .waiting => true
      | .recheck => true
      | .latched => true)

/-- Every qualifier record has the fields its state has, and no others (R59). -/
def RecordsFormed (s : State) : Prop := ∀ p, (s.pos p).qual.formed = true

/-- The law of the Safety Loop unit: outside ARMED every SWITCHED position holds SAFETY, and in ARMED none does
(R123). -/
def SafetyHeld (s : State) : Prop :=
  ∀ p, (s.pos p).holds.safety = (decide (s.safety.state ≠ .armed) && s.role p == .switched)

/-- Whether an order for a position stands in a section of the Actuation Queue. -/
def ordered (q : List Order) (p : Pos) : Prop := ∃ o ∈ q, o.position = p

/-- The positions of the batch in flight. -/
def Drive.moving (d : Drive) : List Pos :=
  match d.batch with
  | some b => b.orders.map BatchOrder.position
  | none => []

/-- The laws of the Switch Drive: the queue holds, once each, exactly the orders that the targets and conditions call
for (R107, R108); the positions of the batch in flight are those that are MOVING and those whose gate is on (R103,
R105); the positions that are not SWITCHED are those that are ABSENT (Table 6-1); no order waits while no batch is in
flight; and a batch holds at least one order, one for a position, all of one switch group (R4, R110). -/
def DriveLaws (s : State) : Prop :=
  (∀ p, ordered s.drive.openQ p ↔ (s.pos p).condition = .closed ∧ (s.pos p).holds ≠ HoldSet.empty)
    ∧ (∀ p, ordered s.drive.closeQ p ↔ (s.pos p).condition = .opened ∧ (s.pos p).holds = HoldSet.empty)
    ∧ (s.drive.openQ.map Order.position).Nodup ∧ (s.drive.closeQ.map Order.position).Nodup
    ∧ (∀ p, (s.pos p).condition = .moving ↔ p ∈ s.drive.moving)
    ∧ (∀ p, (s.pos p).gate = true ↔ p ∈ s.drive.moving)
    ∧ (∀ p, (s.pos p).condition = .absent ↔ s.role p ≠ .switched)
    ∧ (s.drive.batch = none → s.drive.openQ = [] ∧ s.drive.closeQ = [])
    ∧ (∀ b, s.drive.batch = some b → b.orders ≠ [] ∧ (b.orders.map BatchOrder.position).Nodup
        ∧ ∀ x ∈ b.orders, ∀ y ∈ b.orders, switchGroup x.position = switchGroup y.position)

/-- How many requested sweeps of a port wait or run (R23). -/
def State.pendingCount (s : State) (q : Port) : Nat :=
  (s.seq.requested.filter (fun k => k == q)).length + (if s.runningOrigin = some (portOrigin q) then 1 else 0)

/-- Whether a slot holds the ASSESSED record of a sweep number. -/
def Sequencer.holds (x : Sequencer) (n : Nat) : Prop :=
  ∃ i r, x.slots.get i = some r ∧ r.assessed = true ∧ r.number = n

/-- The laws of the Sweep Record Ring: a port has at most one pending requested sweep and, with it, at most two pins
(R23, R30); a pinned number is that of an ASSESSED record (R28, R34); the record that is FILLING is that of the running
sweep, and there is no other (R27); the fill order lists, once each, the slots that are not FREE (R27). -/
def RingLaws (s : State) : Prop :=
  (∀ q, s.pendingCount q ≤ 1 ∧ (s.ports.get q).pins.length + s.pendingCount q ≤ Config.pinLimit)
    ∧ (∀ q, ∀ n ∈ (s.ports.get q).pins, s.seq.holds n)
    ∧ (∀ i, (∃ r, s.seq.slots.get i = some r ∧ r.assessed = false) ↔ s.seq.running.map Running.slot = some i)
    ∧ (∀ i, i ∈ s.seq.fillOrder ↔ (s.seq.slots.get i).isSome = true)
    ∧ s.seq.fillOrder.Nodup

/-- The states of a step in which its candidate holds LOCATE (R146). -/
def WalkState.locating : WalkState → Bool
  | .idle => false
  | .baseline => false
  | .opening => true
  | .settling => true
  | .measuring => true
  | .reclosing => false

/-- The laws of the Locating Walk: outside IDLE there is a candidate (Table 8-2); LOCATE is held by the candidate of
a step in OPENING, SETTLING or MEASURING and by no other position (R138 to R146); and a walk runs only while the safety
state is ARMED (R137). -/
def WalkLaws (s : State) : Prop :=
  (s.walk.state ≠ .idle → s.walk.candidate.isSome = true)
    ∧ (∀ p, (s.pos p).holds.locate = true ↔ s.walk.state.locating = true ∧ s.walk.candidate = some p)
    ∧ (s.walk.state ≠ .idle → s.safety.state = .armed)

/-- The laws of the store's schedule: a write waits only while another is under way, and at most one of each kind waits
or is under way besides (R168 to R170). -/
def StoreLaws (s : State) : Prop :=
  (s.store.writing = none → s.store.waiting = [])
    ∧ (s.store.waiting.filter (fun w => w == .retained)).length ≤ 1
    ∧ (s.store.waiting.filter (fun w => w != .retained)).length
        + (match s.store.writing with | some (.save _ _) => 1 | _ => 0) ≤ 1

/-- Every port's queue holds at most 32 notices (R154). -/
def NoticesBounded (s : State) : Prop := ∀ q, (s.ports.get q).notices.length ≤ Config.noticeLimit

/-- A learned ratio in its range (R52). -/
def ratioOk (r : Nat) : Bool := decide (256 ≤ r) && decide (r ≤ 1280)

/-- Every ratio of a table in range. -/
def ratiosOk (v : Vector Nat 24) : Prop := ∀ p, ratioOk (v.get p) = true

/-- Every ratio that the Retained Store keeps, or is writing, in range. -/
def storedRatiosOk (x : Store) : Prop :=
  ratiosOk x.ratioSnapshot
    ∧ (∀ k c, x.retainedImage.get k = some c → ratiosOk c.content.ratios)
    ∧ (∀ k c, x.writing = some (.retained k c) → ratiosOk c.content.ratios)

/-- Every learned ratio, and every ratio the store keeps, lies in 256 to 1280 (R52, R56). -/
def RatiosInRange (s : State) : Prop := (∀ p, ratioOk (s.pos p).ratio = true) ∧ storedRatiosOk s.store

/-- Every numeric setting of a set of settings in its range (Table 11-1). -/
def Settings.inRange (st : Settings) : Prop := ∀ n, n.range.1 ≤ st.number n ∧ st.number n ≤ n.range.2

/-- Every set of settings that the Retained Store keeps, writes or has waiting is in range. -/
def storedSettingsOk (x : Store) : Prop :=
  (∀ k c, x.settingsImage.get k = some c → c.content.inRange)
    ∧ (∀ k c, x.writing = some (.save k c) → c.content.inRange)
    ∧ (∀ st, Waiting.save st ∈ x.waiting → st.inRange)

/-- The working copy and every stored copy of the settings are in range (R167). -/
def SettingsInRange (s : State) : Prop := s.settings.inRange ∧ storedSettingsOk s.store

/-! ### The assessment -/

/-- Whether the absolute classes leave a position with an entry pending relative (R39, the last line of Table 3-2). -/
def PendingRelative (s : State) (p : Pos) (e : PosEntry) : Prop :=
  s.role p ≠ .unused ∧ s.settings.excluded.get p = false
    ∧ (e.condition = .closed ∨ e.condition = .jammedClosed ∨ e.condition = .absent)
    ∧ e.saturation = .none ∧ e.mean < (s.settings.overThreshold : Int) ∧ -(s.settings.reverseThreshold : Int) < e.mean

/-- Whether a position with an entry is an eligible member of a group (R42). -/
def EligibleMember (s : State) (g : Fin 6) (p : Pos) (e : PosEntry) : Prop :=
  s.settings.peerGroup.get p = g.succ ∧ PendingRelative s p e
    ∧ (e.condition = .closed ∨ (e.condition = .absent ∧ s.role p = .monitored))
    ∧ ((s.pos p).qual.state = .clear ∨ (s.pos p).qual.state = .suspect)

/-! ### Requests -/

/-- A request that is taken as it arrives: its frame fits, can have arrived at its port, and is for this station (R158). -/
def Ready (q : Port) (station code : Byte) (body : List Byte) (s : State) : Prop :=
  body.length < Config.maxLength ∧ arrives (s.ports.get q) (goodFrame station (code :: body)) = true
    ∧ stationAccepted q (s.ports.get q) station = true

/-- A request as its frame carries it, with the contacts its handling may read. -/
structure RequestFrame where
  port : Port
  station : Byte
  code : Byte
  body : List Byte
  contacts : Contacts
deriving DecidableEq, Repr

/-- The frame of a Write Setting with a setting code, an index and a value (R167). -/
def writeFrame (q : Port) (station : Byte) (code : Nat) (index : Byte) (value : Half) (c : Contacts) : RequestFrame :=
  ⟨q, station, 0x51, byte code :: index :: bytes2 value.toNat, c⟩

/-- The frame that a request row stands for: the port it arrives on, its Station, Code and Body (Table 10-2). -/
def requestOf : Instr → Option RequestFrame
  | .readStatus q st b => some ⟨q, st, 0x01, b, 0⟩
  | .readPosition q st b => some ⟨q, st, 0x02, b, 0⟩
  | .readMap q st b => some ⟨q, st, 0x03, b, 0⟩
  | .requestSweep q st b => some ⟨q, st, 0x10, b, 0⟩
  | .pinSweep q st b => some ⟨q, st, 0x11, b, 0⟩
  | .readSweep q st b => some ⟨q, st, 0x12, b, 0⟩
  | .unpinSweep q st b => some ⟨q, st, 0x13, b, 0⟩
  | .placeHold q st b => some ⟨q, st, 0x20, b, 0⟩
  | .releaseHold q st b => some ⟨q, st, 0x21, b, 0⟩
  | .clearFault q st b => some ⟨q, st, 0x22, b, 0⟩
  | .clearSwitch q st b c => some ⟨q, st, 0x23, b, c⟩
  | .startLocate q st b => some ⟨q, st, 0x30, b, 0⟩
  | .readWalk q st b => some ⟨q, st, 0x31, b, 0⟩
  | .fetchNotices q st b => some ⟨q, st, 0x40, b, 0⟩
  | .readSetting q st b => some ⟨q, st, 0x50, b, 0⟩
  | .writeSetting q st b c => some ⟨q, st, 0x51, b, c⟩
  | .writeRole q st i v c => some (writeFrame q st 0x20 i v c)
  | .writePeerGroup q st i v => some (writeFrame q st 0x21 i v 0)
  | .writeExclusionFlag q st i v => some (writeFrame q st 0x22 i v 0)
  | .writeBlendWeight q st i v => some (writeFrame q st 0x28 i v 0)
  | .writeRoutineInterval q st i v => some (writeFrame q st 0x01 i v 0)
  | .writeQualifierSetting q st w i v => some (writeFrame q st (qualifierCode w) i v 0)
  | .writeLearningEnable q st i v => some (writeFrame q st 0x10 i v 0)
  | .writeSwitchTiming q st w i v => some (writeFrame q st (timingCode w) i v 0)
  | .writeRestoreDelay q st i v => some (writeFrame q st 0x19 i v 0)
  | .writeLeakageSetting q st w i v => some (writeFrame q st (leakageCode w) i v 0)
  | .writeWalkSetting q st w i v => some (writeFrame q st (walkCode w) i v 0)
  | .writeLinkSetting q st w l i v => some (writeFrame q st (linkCode w l) i v 0)
  | .writeSubscription q st r i v => some (writeFrame q st (subscriptionCode r) i v 0)
  | .saveSettings q st b => some ⟨q, st, 0x52, b, 0⟩
  | .resetRatio q st b => some ⟨q, st, 0x53, b, 0⟩
  | .unknownRequestCode q st k b => if (Request.ofCode k).isSome then none else some ⟨q, st, k, b, 0⟩
  | _ => none

/-- Whether a Body has the form its request asks for (R162, step 3; R90; R167). -/
def Request.bodyOk (r : Request) (body : List Byte) : Bool :=
  match r with
  | .readStatus => body.isEmpty
  | .readPosition => oneNumber body
  | .readMap => body.isEmpty
  | .requestSweep => body.isEmpty
  | .pinSweep => body.length == 4
  | .readSweep => body.length == 5 && decide (1 ≤ (body.getD 4 0).toNat) && decide ((body.getD 4 0).toNat ≤ 5)
  | .unpinSweep => body.length == 4
  | .placeHold => body.length == 3 && body != [0, 0, 0]
  | .releaseHold => body.length == 3 && body != [0, 0, 0]
  | .clearFault => oneNumber body
  | .clearSwitch => oneNumber body
  | .startLocate => body.isEmpty
  | .readWalk => body.isEmpty
  | .fetchNotices => body.isEmpty
  | .readSetting => body.length == 2 && (Setting.ofCode (body.getD 0 0).toNat (body.getD 1 0).toNat).isSome
  | .writeSetting =>
    body.length == 4
      && (match Setting.ofCode (body.getD 0 0).toNat (body.getD 1 0).toNat with
        | some x => (x.applied ((body.getD 2 0).toNat * 256 + (body.getD 3 0).toNat)).isSome
        | none => false)
  | .saveSettings => body.isEmpty
  | .resetRatio => oneNumber body
where
  /-- One character that is a position number. -/
  oneNumber (body : List Byte) : Bool :=
    body.length == 1 && decide (1 ≤ (body.getD 0 0).toNat) && decide ((body.getD 0 0).toNat ≤ 24)

/-- The state with the receiver of a port back in IDLE, the working copy's station address and speed applied on a link,
and all else as it was (R157, R158). -/
def idled (q : Port) (s : State) : State :=
  match q with
  | .linkP => { s with ports := { s.ports with linkP :=
      { s.ports.linkP with receiver := .idle, answer := [], station := s.settings.stationP, speed := s.settings.speedP } } }
  | .linkS => { s with ports := { s.ports with linkS :=
      { s.ports.linkS with receiver := .idle, answer := [], station := s.settings.stationS, speed := s.settings.speedS } } }
  | .service => { s with ports := { s.ports with service :=
      { s.ports.service with receiver := .idle, answer := [] } } }

/-- The commands taken one after another, up to the first fault or refusal. -/
def execAll : List Instr → State → Host.Outcome State Fault Refusal
  | [], s => .next s
  | c :: cs, s =>
    match exec c s with
    | .next t => execAll cs t
    | .fault r => .fault r
    | .refused r => .refused r

/-- The state with the answer of a request being sent on its port, and all else as it was: the Body of the answer is its
Status and what follows (R158, R160). -/
def answered (q : Port) (station code : Byte) (body : List Byte) (s : State) : State :=
  modifyPort q (fun x =>
    { x with receiver := .answering, answer := answerFrame (answerStation q x station) code body }) s

end Sys2Proof.Machine
end

