-- ==== Sys2Proof/Certificates/Slice0/Obligations.lean ====
section
/-! DEFINITION. The statements for the provers. -/

open Sys2Proof Sys2Proof.Machine

/-! ### The machine and its reset -/

/-- A step takes the command at the front of the queue and runs it with the queue's rest. On an empty queue a
millisecond passes: that is the model's choice (log entry 1). -/
def Obligations.StepTakesFront : Prop :=
  (∀ (c : Instr) (rest : List Instr) (s : State),
      step { s with pending := c :: rest } = exec c { s with pending := rest })
    ∧ ∀ s : State, s.pending = [] → step s = .next { s with now := s.now + 1 }

/-- Every command answers a next state in every state, and leaves the queue of commands alone. That no command faults
or is refused is read from a manual that names no stop (log entry 15), and that an event which cannot come about in
the state that stands changes nothing is the model's choice (log entry 4). -/
def Obligations.EveryCommandCompletes : Prop :=
  ∀ (c : Instr) (s : State), ∃ t, exec c s = .next t ∧ t.pending = s.pending

/-- RESET, position by position (R6, R60, R97, R103, R106, R110, R128, R172): the role as loaded, or SWITCHED where the
retained state keeps the position open; LOCKOUT, FAULT and the LATCHED record as retained; SAFETY on every SWITCHED
position; the condition read from the contact, but MOVING with the gate on where the first batch has taken the position,
which is every SWITCHED position with a closed contact in the lowest switch group that has one. What the contacts, the
loop and the key read are operands of the command (log entry 6). -/
def Obligations.ResetPositions : Prop :=
  ∀ (c : Contacts) (loopClosed keyOn : Bool) (s : State), ∃ t, exec (.reset c loopClosed keyOn) s = .next t
    ∧ DriveLaws t
    ∧ ∀ p : Pos,
      let locked := s.store.loadedRetained.lockouts.get p
      let latched := s.store.loadedRetained.latched.get p
      t.role p = (if locked || latched.isSome then .switched else s.store.loadedSettings.role.get p)
        ∧ (t.pos p).holds = ⟨latched.isSome, false, false, locked, t.role p == .switched, false⟩
        ∧ (t.pos p).reason = latched
        ∧ (t.pos p).qual =
            ⟨if latched.isSome then .latched else .clear, none, 0, 0, latched, none, none, t.settings.trialCount⟩
        ∧ (t.pos p).residual = 0 ∧ (t.pos p).lastChange = 0 ∧ (t.pos p).lastClass = none
        ∧ (t.pos p).ratio = s.store.loadedRetained.ratios.get p
        ∧ (t.role p ≠ .switched → (t.pos p).condition = .absent ∧ (t.pos p).gate = false)
        ∧ (t.role p = .switched → c.closed p = false → (t.pos p).condition = .opened ∧ (t.pos p).gate = false)
        ∧ (t.role p = .switched → c.closed p = true →
            let first := ∀ q : Pos, t.role q = .switched → c.closed q = true → p.val / 6 ≤ q.val / 6
            (first → (t.pos p).condition = .moving ∧ (t.pos p).gate = true)
              ∧ (¬ first → (t.pos p).condition = .closed ∧ (t.pos p).gate = false))

/-- RESET, everything that is not kept for a position (R36, R110, R111, R128, R131, R136, R151, R157, R168, R169, R171,
R172). Every SWITCHED position with a closed contact has an OPEN order of uptime 0, in ascending order; the first batch
has taken those of the lowest switch group, and waits for its bypass settle time from the start with the timings of the
working copy; without such a position the drive is idle. The whole start-up sequence is one command (log entry 23). -/
def Obligations.ResetRest : Prop :=
  ∀ (c : Contacts) (loopClosed keyOn : Bool) (s : State), ∃ t, exec (.reset c loopClosed keyOn) s = .next t
    ∧ t.pending = s.pending ∧ t.now = 0 ∧ t.nextHour = 3600 ∧ t.key = keyOn
    ∧ t.settings = { s.store.loadedSettings with role := t.settings.role }
    ∧ t.seq = ⟨Vector.replicate 8 none, [], none, false, false, [], 1, 0, t.settings.routineInterval⟩
    ∧ t.safety =
        (if loopClosed then ⟨.restoring, some (t.settings.restoreDelay * 1000), true⟩ else ⟨.tripped, none, false⟩)
    ∧ t.leakage = ⟨.quiet, 0, 0⟩
    ∧ t.walk = ⟨none, none, .idle, [], 0, [], none, none, none, none⟩
    ∧ t.ports =
        ⟨⟨.idle, [], t.settings.stationP, t.settings.speedP, [], 0, [], false⟩,
         ⟨.idle, [], t.settings.stationS, t.settings.speedS, [], 0, [], false⟩,
         ⟨.idle, [], 0, .baud38400, [], 0, [], false⟩⟩
    ∧ t.store =
        ⟨s.store.settingsImage, s.store.retainedImage, none, [], .none, s.store.settingsImage.newer.isSome,
         s.store.retainedImage.newer.isSome, s.store.loadedRetained.ratios⟩
    ∧ (let closed := Pos.all.filter (fun p => decide (t.role p = .switched ∧ c.closed p = true))
      (closed = [] → t.drive = ⟨[], [], none⟩)
        ∧ ∀ (lowest : Pos) (rest : List Pos), closed = lowest :: rest →
          let taken := fun p : Pos => decide (p.val / 6 = lowest.val / 6)
          t.drive =
            { openQ := (closed.filter (fun p => !taken p)).map (fun p => ⟨p, 0⟩)
              closeQ := []
              batch := some
                { orders := (closed.filter taken).map (fun p => ⟨p, .opened, .closed⟩)
                  start := 0
                  bypassSettle := t.settings.bypassSettle
                  relayTravel := t.settings.relayTravel
                  nonOverlap := t.settings.nonOverlap
                  settled := false
                  resetPulse := .due
                  setPulse := .none } })

/-! ### The read requests -/

/-- READ_STATUS answers with the fields of Table 10-3 and changes nothing else (R163). The codes are those of Tables
10-3 and 10-7. -/
def Obligations.StatusRead : Prop :=
  (∀ (q : Port) (station : Byte) (s : State), Ready q station 0x01 [] s →
    let inCondition := fun c => byte (Pos.all.filter (fun p => decide ((s.pos p).condition = c))).length
    let x := s.ports.get q
    exec (.readStatus q station []) s = .next (answered q station 0x01
      (0x00 :: bytes4 s.uptime ++ bytes4 s.seq.lastNumber
        ++ [byte s.safety.state.code, byte s.leakage.state.code] ++ bytes2 s.leakage.last ++ [byte s.walk.state.code]
        ++ [inCondition .closed, inCondition .opened, inCondition .moving, inCondition .jammedClosed,
            inCondition .jammedOpen, inCondition .conductingOpen, inCondition .absent]
        ++ [flagByte s.store.fromImage, flagByte s.store.retainedValid, byte s.store.saveOutcome.code,
            flagByte s.store.saving, flagByte s.key, byte x.pins.length]
        ++ bytes4 (x.pins.getD 0 0) ++ bytes4 (x.pins.getD 1 0)
        ++ [byte (if s.runningOrigin = some (portOrigin q) then 2 else if q ∈ s.seq.requested then 1 else 0)]
        ++ bytes4 x.lastRequested ++ [byte x.notices.length, flagByte x.overflow]) s))
    ∧ [SafetyState.armed, .tripped, .restoring].map SafetyState.code = [1, 2, 3]
    ∧ [AlarmState.quiet, .rising, .alarm, .falling].map AlarmState.code = [1, 2, 3, 4]
    ∧ [WalkState.idle, .baseline, .opening, .settling, .measuring, .reclosing].map WalkState.code = [1, 2, 3, 4, 5, 6]
    ∧ [SaveOutcome.none, .ok, .failed].map SaveOutcome.code = [0, 1, 2]

/-- READ_POSITION answers with the fields of Table 10-4, 0 for a field that is absent, and changes nothing else (R59,
R101, R164). The codes are those of Table 10-7, and a hold set is one byte with a bit for each holder (R166). -/
def Obligations.PositionRead : Prop :=
  (∀ (q : Port) (station : Byte) (p : Pos) (s : State), Ready q station 0x02 [byte p.number] s →
    let x := s.pos p
    let order := (s.drive.openQ.find? (fun o => o.position == p)).map (fun o => (2, o.since))
      <|> (s.drive.closeQ.find? (fun o => o.position == p)).map (fun o => (1, o.since))
    exec (.readPosition q station [byte p.number]) s = .next (answered q station 0x02
      (0x00 :: [byte p.number, byte (s.role p).code, byte (s.settings.peerGroup.get p).val,
          flagByte (s.settings.excluded.get p), byte x.condition.code, byte (order.getD (0, 0)).1]
        ++ bytes4 (order.getD (0, 0)).2 ++ [x.holds.code, byte ((x.reason.map Reason.code).getD 0)]
        ++ bytes4 x.lastChange
        ++ [byte x.qual.state.code, byte ((x.qual.cls.map abnormalCode).getD 0), byte x.qual.count,
            byte ((x.qual.reason.map Reason.code).getD 0)]
        ++ bytes2 (x.qual.timer.getD 0) ++ [byte (x.qual.confirm.getD 0), byte x.qual.trials] ++ bytes2 x.ratio
        ++ [byte ((x.lastClass.map Class.code).getD 0)]) s))
    ∧ [Role.switched, .monitored, .unused].map Role.code = [1, 2, 3]
    ∧ [Condition.closed, .opened, .moving, .jammedClosed, .jammedOpen, .conductingOpen, .absent].map Condition.code
        = [1, 2, 3, 4, 5, 6, 7]
    ∧ [Class.normal, .abnormal .low, .abnormal .opened, .abnormal .reverse, .abnormal .over, .dim, .noRef, .isolated,
        .residual, .unsettled, .excluded, .unused].map Class.code = [1, 2, 3, 4, 5, 6, 7, 8, 9, 10, 11, 12]
    ∧ [Abnormal.low, .opened, .reverse, .over].map abnormalCode = [2, 3, 4, 5]
    ∧ [Reason.fault .low, .fault .opened, .fault .reverse, .fault .over, .ground].map Reason.code = [1, 2, 3, 4, 5]
    ∧ [QualState.clear, .suspect, .declared, .waiting, .recheck, .latched, .reported].map QualState.code
        = [1, 2, 3, 4, 5, 6, 7]
    ∧ ∀ h : HoldSet, [0, 1, 2, 3, 4, 5, 6, 7].map h.code.getLsbD
        = [h.fault, h.plant, h.site, h.lockout, h.safety, h.locate, false, false]

/-- READ_MAP answers with the condition and hold set of each position, and READ_WALK with the walk record, 65535 for a
measured leakage that is absent; neither changes anything else (R165, Table 10-5). The codes of the walk are those of
Table 10-7. -/
def Obligations.MapAndWalkRead : Prop :=
  (∀ (q : Port) (station : Byte) (s : State),
    (Ready q station 0x03 [] s → exec (.readMap q station []) s = .next (answered q station 0x03
      (0x00 :: Pos.all.flatMap (fun p => [byte (s.pos p).condition.code, (s.pos p).holds.code])) s))
    ∧ (Ready q station 0x31 [] s → exec (.readWalk q station []) s = .next (answered q station 0x31
      (0x00 :: [byte s.walk.state.code, byte ((s.walk.origin.map WalkOrigin.code).getD 0)]
        ++ bytes4 (s.walk.startUptime.getD 0) ++ maskBytes (fun p => decide (p ∈ s.walk.candidates))
        ++ [byte s.walk.index, byte s.walk.entries.length, byte ((s.walk.outcome.map WalkOutcome.code).getD 0),
            byte ((s.walk.found.map Pos.number).getD 0)]
        ++ s.walk.entries.flatMap (fun e =>
            byte e.position.number :: bytes2 e.baseline ++ bytes2 (e.measured.getD 65535) ++ [byte e.result.code])) s)))
    ∧ [WalkOrigin.auto, .site, .service].map WalkOrigin.code = [1, 2, 3]
    ∧ [WalkOutcome.found, .notFound, .cleared, .abandoned].map WalkOutcome.code = [1, 2, 3, 4]
    ∧ [StepResult.confirmed, .noDrop, .skippedHeld, .skippedJammed].map StepResult.code = [1, 2, 3, 4]

/-- READ_SETTING answers with the code, the index and the value standing in the working copy (R167); and the value of a
setting that has been written with a value its range admits reads back as that value, the others as they were. -/
def Obligations.SettingRead : Prop :=
  (∀ (q : Port) (station code index : Byte) (x : Setting) (s : State), Ready q station 0x50 [code, index] s →
      Setting.ofCode code.toNat index.toNat = some x →
      exec (.readSetting q station [code, index]) s = .next (answered q station 0x50
        [0x00, code, index, byte (s.settings.value x / 256), byte (s.settings.value x)] s))
    ∧ ∀ (st : Settings) (x y : Setting) (v w : Nat), x.applied w = some v →
        (st.put x v).value x = v ∧ (y ≠ x → (st.put x v).value y = st.value y)

/-! ### The checks of a request and the frame receivers -/

/-- The checks of a request in the order of R162. UNKNOWN_REQUEST_CODE: a Code that names no request is answered
UNKNOWN_REQUEST; a Code that names one is another row's, and the command changes nothing (log entry 4). Every other
request row is checked for NOT_PERMITTED, then BAD_BODY, then KEY_OFF, and one that fails is answered so and changes
nothing. By Table 10-2, Link P refuses the Codes 0x22, 0x23, 0x30, 0x51, 0x52 and 0x53, Link S refuses 0x23, and every
other Code is permitted on all three ports; by R162, the key is asked for at the Service Port by 0x20, 0x21 and 0x23.
The answer of any request is the frame of Table 10-6 (R158 to R160): Lead, the port's station address or, on the Service
Port, the request's Station, Length, the Code with its top bit set, the Body, and the Check, whose register starts at
all ones and takes the bits of the characters after Lead, each from its most significant bit, with the generator x^16 +
x^12 + x^5 + 1. -/
def Obligations.ChecksInOrder : Prop :=
  (∀ (q : Port) (station code : Byte) (body : List Byte) (s : State),
    (code ∉ [0x01, 0x02, 0x03, 0x10, 0x11, 0x12, 0x13, 0x20, 0x21, 0x22, 0x23, 0x30, 0x31, 0x40, 0x50, 0x51, 0x52, 0x53] →
      Ready q station code body s →
      exec (.unknownRequestCode q station code body) s = .next (answered q station code [0x01] s))
    ∧ (code ∈ [0x01, 0x02, 0x03, 0x10, 0x11, 0x12, 0x13, 0x20, 0x21, 0x22, 0x23, 0x30, 0x31, 0x40, 0x50, 0x51, 0x52, 0x53] →
      exec (.unknownRequestCode q station code body) s = .next s))
    ∧ (∀ (c : Instr) (f : RequestFrame) (r : Request) (s : State),
      requestOf c = some f → f.code = r.code → Ready f.port f.station f.code f.body s →
      let refused := (f.port = .linkP ∧ f.code ∈ ([0x22, 0x23, 0x30, 0x51, 0x52, 0x53] : List Byte))
        ∨ (f.port = .linkS ∧ f.code = 0x23)
      (refused → exec c s = .next (answered f.port f.station f.code [0x03] s))
        ∧ (¬ refused → r.bodyOk f.body = false →
          exec c s = .next (answered f.port f.station f.code [0x02] s))
        ∧ (¬ refused → r.bodyOk f.body = true → f.port = .service → f.code ∈ ([0x20, 0x21, 0x23] : List Byte) →
            s.key = false →
          exec c s = .next (answered f.port f.station f.code [0x04] s)))
    ∧ ∀ (q : Port) (station code : Byte) (body : List Byte) (s : State), body.length < 248 →
      let x := (answered q station code body s).ports.get q
      let part := (if q = .service then station else byte (s.ports.get q).station)
        :: byte (body.length + 1) :: (code ||| 0x80) :: body
      let bits := part.flatMap (fun c => [7, 6, 5, 4, 3, 2, 1, 0].map c.getLsbD)
      let check := bits.foldl
        (fun (r : BitVec 16) b => if r.getLsbD 15 = b then r <<< 1 else (r <<< 1) ^^^ 0x1021) 0xFFFF
      x.receiver = .answering ∧ x.answer = 0xA6 :: part ++ [byte (check.toNat / 256), byte check.toNat]

/-- Characters one by one: from IDLE, Lead and then the characters of a request row's frame, its Check last, leave
what the row leaves (R158, R159). That a request row is its whole frame arriving is the model's choice (log entry 5).
-/
def Obligations.CharacterByCharacter : Prop :=
  ∀ (c : Instr) (f : RequestFrame) (s : State), requestOf c = some f → f.body.length < 248 →
    (s.ports.get f.port).receiver = .idle →
    execAll ((0xA6 :: goodFrame f.station (f.code :: f.body)).map (fun ch => .characterReceived f.port ch f.contacts)) s
      = exec c s

/-- CHARACTER_RECEIVED, where it does not complete a frame (R158): in IDLE a Lead begins a frame and any other
character is ignored; in ANSWERING every character is; in RECEIVING it is kept, but a Length of 0 or above 248
discards the frame, and so does a Check that does not match. -/
def Obligations.CharacterTaken : Prop :=
  ∀ (q : Port) (ch : Byte) (k : Contacts) (s : State),
    let received := fun got => { s with ports := s.ports.set q { s.ports.get q with receiver := .receiving got } }
    ((s.ports.get q).receiver = .idle → ch = 0xA6 → exec (.characterReceived q ch k) s = .next (received []))
      ∧ ((s.ports.get q).receiver = .idle → ch ≠ 0xA6 → exec (.characterReceived q ch k) s = .next s)
      ∧ ((s.ports.get q).receiver = .answering → exec (.characterReceived q ch k) s = .next s)
      ∧ ∀ got : List Byte, (s.ports.get q).receiver = .receiving got →
        (got.length = 0 → exec (.characterReceived q ch k) s = .next (received [ch]))
          ∧ (got.length = 1 → ch.toNat = 0 ∨ 248 < ch.toNat → exec (.characterReceived q ch k) s = .next (idled q s))
          ∧ (got.length = 1 → 0 < ch.toNat → ch.toNat ≤ 248 →
              exec (.characterReceived q ch k) s = .next (received (got ++ [ch])))
          ∧ (2 ≤ got.length → got.length + 1 ≠ (got.getD 1 0).toNat + 4 →
              exec (.characterReceived q ch k) s = .next (received (got ++ [ch])))
          ∧ (2 ≤ got.length → got.length + 1 = (got.getD 1 0).toNat + 4 →
              bytes2 (crc16 (got.take (got.length - 1))).toNat ≠ got.drop (got.length - 1) ++ [ch] →
              exec (.characterReceived q ch k) s = .next (idled q s))

/-- FRAME_DISCARDED, LENGTH_DISCARD, CHARACTER_GAP_TIMEOUT and CHARACTER_ERROR return a receiver to IDLE, and so does
ANSWER_SENT; in another state of the receiver the last three change nothing. A request row's frame that arrives for
another station is received to its end and discarded; one whose characters arrive while the port is answering is not
received at all (R158). When a whole frame can have arrived is log entry 5; that an event which cannot come about in
the receiver's state changes nothing is log entry 4: both are the model's choices. -/
def Obligations.ReceiverReturnsToIdle : Prop :=
  (∀ (q : Port) (s : State),
    (∀ (station : Byte) (payload : List Byte) (check : Half), payload ≠ [] → payload.length ≤ 248 →
        arrives (s.ports.get q) (station :: byte payload.length :: payload ++ bytes2 check.toNat) = true →
        (crc16 (station :: byte payload.length :: payload) ≠ check
          ∨ (q ≠ .service ∧ station.toNat ≠ (s.ports.get q).station)) →
        exec (.frameDiscarded q station payload check) s = .next (idled q s))
      ∧ (∀ station length : Byte, length.toNat = 0 ∨ 248 < length.toNat →
          arrives (s.ports.get q) [station, length] = true →
          exec (.lengthDiscard q station length) s = .next (idled q s))
      ∧ (∀ got, (s.ports.get q).receiver = .receiving got →
          exec (.characterGapTimeout q) s = .next (idled q s) ∧ exec (.characterError q) s = .next (idled q s)
            ∧ exec (.answerSent q) s = .next s)
      ∧ ((s.ports.get q).receiver = .idle →
          exec (.characterGapTimeout q) s = .next s ∧ exec (.characterError q) s = .next s
            ∧ exec (.answerSent q) s = .next s)
      ∧ ((s.ports.get q).receiver = .answering →
          exec (.characterGapTimeout q) s = .next s ∧ exec (.characterError q) s = .next s
            ∧ exec (.answerSent q) s = .next (idled q s)))
    ∧ ∀ (c : Instr) (f : RequestFrame) (s : State), requestOf c = some f →
      ((s.ports.get f.port).receiver = .answering → exec c s = .next s)
        ∧ (f.body.length < 248 → arrives (s.ports.get f.port) (goodFrame f.station (f.code :: f.body)) = true →
            f.port ≠ .service → f.station.toNat ≠ (s.ports.get f.port).station →
          exec c s = .next (idled f.port s))

/-! ### Sweeps and the record ring -/

/-- REQUEST_SWEEP (R23, R26): a port whose requested sweep is pending is answered OK and gets no second; one that
holds 2 pins is answered LIMIT; else the sweep waits behind those accepted before it. ROUTINE_TIMER_EXPIRY (R21)
restarts the timer, and queues a ROUTINE sweep unless one is waiting or running. SWEEP_START happens at once for both.
The event that calls for a sweep starts it when it can (log entry 8), and a timer event brings the clock to the
timer's due moment (log entry 2): these are the model's choices. -/
def Obligations.SweepsQueued : Prop :=
  (∀ (q : Port) (station : Byte) (s : State), Ready q station 0x10 [] s →
    (s.runningOrigin = some (portOrigin q) ∨ q ∈ s.seq.requested →
      exec (.requestSweep q station []) s = .next (answered q station 0x10 [0x00] s))
    ∧ (s.runningOrigin ≠ some (portOrigin q) → q ∉ s.seq.requested → 2 ≤ (s.ports.get q).pins.length →
      exec (.requestSweep q station []) s = .next (answered q station 0x10 [0x05] s))
    ∧ (s.runningOrigin ≠ some (portOrigin q) → q ∉ s.seq.requested → (s.ports.get q).pins.length < 2 →
      ∃ t, exec .sweepStart { s with seq := { s.seq with requested := s.seq.requested ++ [q] } } = .next t
        ∧ exec (.requestSweep q station []) s = .next (answered q station 0x10 [0x00] t)))
    ∧ ∀ s : State,
      let w := { s with
        now := max s.now (s.seq.routineDue * 1000)
        seq := { s.seq with routineDue := s.seq.routineDue + s.settings.routineInterval } }
      (s.seq.routineWaiting = true ∨ s.runningOrigin = some .routine → exec .routineTimerExpiry s = .next w)
      ∧ (s.seq.routineWaiting = false → s.runningOrigin ≠ some .routine →
        ∃ t, exec .sweepStart { w with seq := { w.seq with routineWaiting := true } } = .next t
          ∧ exec .routineTimerExpiry s = .next t)

/-- SWEEP_START (R19, R20, R26 to R29): nothing starts while a sweep runs or none waits; else the sweep that comes
first, LOCATE, then ROUTINE, then the requested sweep accepted earliest, takes the next number and a slot, which
becomes the newest of the fill order. The slot is the lowest FREE one or, with none FREE, the ASSESSED one filled
earliest whose record no port pins. That the command acts on a waiting sweep that stands is the model's choice (log
entry 8). -/
def Obligations.SweepStarts : Prop :=
  ∀ s : State,
    (s.seq.running ≠ none ∨ (s.seq.locateWaiting = false ∧ s.seq.routineWaiting = false ∧ s.seq.requested = []) →
      exec .sweepStart s = .next s)
    ∧ ∀ i : Fin 8,
      let free := fun j => s.seq.slots.get j = none
      let reusable := fun j => ∃ r, s.seq.slots.get j = some r ∧ r.assessed = true ∧ ∀ q, r.number ∉ (s.ports.get q).pins
      let starts := fun (origin : Origin) (forWalk : Bool) (waits : Sequencer) =>
        { s with seq :=
          { waits with
            slots := s.seq.slots.set i (some ⟨s.seq.nextNumber, origin, s.uptime, none, false, [], []⟩)
            fillOrder := s.seq.fillOrder.filter (fun j => j != i) ++ [i]
            running := some ⟨i, (s.pos 0).condition, forWalk⟩
            nextNumber := if s.seq.nextNumber < 4294967295 then s.seq.nextNumber + 1 else 1 } }
      s.seq.running = none →
      (free i ∧ ∀ j < i, ¬ free j)
        ∨ ((∀ j, ¬ free j) ∧ reusable i
          ∧ ∃ before later, s.seq.fillOrder = before ++ i :: later ∧ ∀ j ∈ before, ¬ reusable j) →
      (s.seq.locateWaiting = true →
          exec .sweepStart s = .next (starts .locate true { s.seq with locateWaiting := false }))
        ∧ (s.seq.locateWaiting = false → s.seq.routineWaiting = true →
          exec .sweepStart s = .next (starts .routine false { s.seq with routineWaiting := false }))
        ∧ ∀ q rest, s.seq.locateWaiting = false → s.seq.routineWaiting = false → s.seq.requested = q :: rest →
          exec .sweepStart s = .next (starts (portOrigin q) false { s.seq with requested := rest })

/-- CHANNEL_BURST_COMPLETE (R15 to R17): the position's mean, rounded to nearest with ties away from zero, its
saturation flag and the condition kept for its burst are appended to the record; the next position's burst begins on
the condition that stands. -/
def Obligations.BurstRecorded : Prop :=
  ∀ (v : Samples) (s : State) (i : Fin 8) (c : Condition) (w : Bool) (r : SweepRecord),
    s.seq.running = some ⟨i, c, w⟩ → s.seq.slots.get i = some r → r.entries.length < 24 →
    let sum := (v.toList.map BitVec.toInt).sum
    ∃ (mean : Int) (flag : Saturation),
      |8 * mean - sum| ≤ 4 ∧ (|8 * mean - sum| = 4 → |sum| < |8 * mean|)
      ∧ (flag = .plus ↔ ∃ x ∈ v.toList, x.toInt = 2047)
      ∧ (flag = .minus ↔ (∃ x ∈ v.toList, x.toInt = -2048) ∧ ∀ x ∈ v.toList, x.toInt ≠ 2047)
      ∧ exec (.channelBurstComplete v) s = .next { s with seq :=
          { s.seq with
            slots := s.seq.slots.set i
              (some { r with entries := r.entries ++ [⟨mean, flag, c, none, none, none⟩] })
            running := some
              ⟨i, if h : r.entries.length + 1 < 24 then (s.pos ⟨r.entries.length + 1, h⟩).condition else .absent, w⟩ } }

/-- SWEEP_COMPLETE (R18, R19, R24, R25, R37): the leakage mean rounded to nearest, ties upward, and the assessment are
written into the record, the converter is free and the number is the last sweep number. A requested sweep is then
pinned for its port; a LOCATE sweep whose walk has ended is handed to nobody; a LOCATE sweep of the walk gives it L; a
ROUTINE sweep goes to the learning, to each position in ascending order and to the Leakage unit. The next waiting
sweep starts, and the event ends as EventEnds says. A position's share of a ROUTINE completion is its class and
recorded condition in the record, taken by its qualifier record (ClassTaken) and then by its residual counter
(ResidualCounted). That one command holds the assessment and all the hand-overs, with the converter handed on last,
that the record takes its class before the counter does and the Leakage unit comes last, and that the positions act in
ascending order with one batch formed after them all, are the model's choices (log entries 7, 11, 25, 29, 31 and 33). -/
def Obligations.SweepCompletes : Prop :=
  ∀ (v : Samples) (s : State) (i : Fin 8) (c : Condition) (w : Bool) (r : SweepRecord) (l : Nat),
    s.seq.running = some ⟨i, c, w⟩ → s.seq.slots.get i = some r → r.entries.length = 24 →
    8 * l ≤ (v.toList.map BitVec.toNat).sum + 4 → (v.toList.map BitVec.toNat).sum + 4 < 8 * l + 8 →
    let u := { s with seq :=
      { s.seq with
        slots := s.seq.slots.set i (some (s.assess l r)), running := none, lastNumber := r.number } }
    (∀ q, r.origin = portOrigin q →
      let x := s.ports.get q
      let y := { x with pins := x.pins ++ [r.number], lastRequested := r.number }
      exec (.sweepComplete v) s = .next (startNext { u with ports := s.ports.set q y }))
    ∧ (r.origin = .locate → w = false → exec (.sweepComplete v) s = .next (startNext u))
    ∧ (r.origin = .locate → w = true → exec (.sweepComplete v) s = .next (conclude s (startNext (walkSweep l u))))
    ∧ (r.origin = .routine →
      exec (.sweepComplete v) s = .next (conclude s (startNext (takeLeakage l
        (Pos.all.foldl (fun x p => takePosition (s.assess l r) p x) (learn (s.assess l r) u))))))
    ∧ ∀ p : Pos, ∃ e k, (s.assess l r).entries[p.val]? = some e ∧ e.cls = some k ∧ ∀ x,
      takePosition (s.assess l r) p x = takeResidual p k e.condition (takeClass p k e.condition x)

/-- PIN_SWEEP and UNPIN_SWEEP (R30 to R32): the record of the number, or for 0 the ASSESSED record filled last, is
pinned for the port unless it is already; NO_RECORD where there is none, LIMIT where the port's pins and pending
requested sweep are 2. UNPIN_SWEEP removes a pin the port holds. -/
def Obligations.PinsChanged : Prop :=
  ∀ (q : Port) (station : Byte) (body : List Byte) (s : State), body.length = 4 →
    let n := ofBytes body
    let pins := (s.ports.get q).pins
    let pinned := fun (l : List Nat) => { s with ports := s.ports.set q { s.ports.get q with pins := l } }
    let pending := if s.runningOrigin = some (portOrigin q) ∨ q ∈ s.seq.requested then 1 else 0
    (Ready q station 0x11 body s → ∀ m : Nat,
      (n ≠ 0 → ¬ s.seq.holds n → exec (.pinSweep q station body) s = .next (answered q station 0x11 [0x06] s))
      ∧ (n = 0 → (∀ i ∈ s.seq.fillOrder, ∀ r, s.seq.slots.get i = some r → r.assessed = false) →
        exec (.pinSweep q station body) s = .next (answered q station 0x11 [0x06] s))
      ∧ ((n ≠ 0 ∧ m = n ∧ s.seq.holds n)
          ∨ (n = 0 ∧ ∃ before i later r, s.seq.fillOrder = before ++ i :: later ∧ s.seq.slots.get i = some r
            ∧ r.assessed = true ∧ r.number = m
            ∧ ∀ j ∈ later, ∀ x, s.seq.slots.get j = some x → x.assessed = false) →
        (m ∈ pins → exec (.pinSweep q station body) s = .next (answered q station 0x11 (0x00 :: bytes4 m) s))
        ∧ (m ∉ pins → 2 ≤ pins.length + pending →
            exec (.pinSweep q station body) s = .next (answered q station 0x11 [0x05] s))
        ∧ (m ∉ pins → pins.length + pending < 2 →
            exec (.pinSweep q station body) s
              = .next (answered q station 0x11 (0x00 :: bytes4 m) (pinned (pins ++ [m]))))))
    ∧ (Ready q station 0x13 body s →
      (n ∈ pins → exec (.unpinSweep q station body) s
          = .next (answered q station 0x13 [0x00] (pinned (pins.filter (fun k => k != n)))))
      ∧ (n ∉ pins → exec (.unpinSweep q station body) s = .next (answered q station 0x13 [0x06] s)))

/-- READ_SWEEP (R34, R35): a part of a record that the port pins is answered with the fields of Table 2-5 and the
absence codes of R35; NO_RECORD where the port does not pin the number. Nothing else changes. -/
def Obligations.SweepPartsRead : Prop :=
  ∀ (q : Port) (station : Byte) (number : List Byte) (part : Byte) (s : State), number.length = 4 →
    1 ≤ part.toNat → part.toNat ≤ 5 → Ready q station 0x12 (number ++ [part]) s →
    (ofBytes number ∉ (s.ports.get q).pins →
      exec (.readSweep q station (number ++ [part])) s = .next (answered q station 0x12 [0x06] s))
    ∧ ∀ (i : Fin 8) (r : SweepRecord), ofBytes number ∈ (s.ports.get q).pins → s.seq.slots.get i = some r →
      r.assessed = true → r.number = ofBytes number →
      (∀ j x, s.seq.slots.get j = some x → x.assessed = true → x.number = ofBytes number → j = i) →
      let positions := fun (first : Nat) => ((r.entries.drop first).take 8).flatMap (fun e =>
        signed2 e.mean ++ [byte e.saturation.code, byte e.condition.code, byte ((e.cls.map Class.code).getD 0)]
          ++ bytes2 (e.expected.getD 0).toNat ++ signed2 (e.deviation.getD (-32768)))
      exec (.readSweep q station (number ++ [part])) s = .next (answered q station 0x12
        (0x00 :: bytes4 (ofBytes number) ++ [part]
          ++ (if part = 1 then
                byte r.origin.code :: bytes4 r.startUptime ++ bytes2 (r.leakage.getD 0) ++ [0x02]
              else if part = 2 then positions 0
              else if part = 3 then positions 8
              else if part = 4 then positions 16
              else r.groups.flatMap (fun g =>
                [byte g.members, byte g.eligible] ++ signed2 (g.median.getD (-32768)) ++ [flagByte g.dim]))) s)

/-! ### The assessment -/

/-- The absolute classes (R39 to R41, Table 3-2): the first line that holds for a position gives its class, on the
settings that stand and the condition recorded at its burst; the assessment leaves what the burst recorded. -/
def Obligations.AbsoluteClasses : Prop :=
  ∀ (s : State) (l : Nat) (r : SweepRecord) (p : Pos) (e : PosEntry), r.entries[p.val]? = some e →
    let st := s.settings
    let classed := fun k => (s.assess l r).entries[p.val]? = some { e with cls := some k }
    let isOpen := e.condition = .opened ∨ e.condition = .jammedOpen ∨ e.condition = .conductingOpen
    (s.role p = .unused → classed .unused)
    ∧ (s.role p ≠ .unused → st.excluded.get p = true → classed .excluded)
    ∧ (s.role p ≠ .unused → st.excluded.get p = false →
      (e.condition = .moving → classed .unsettled)
      ∧ (isOpen → (st.residualThreshold : Int) < |e.mean| → classed .residual)
      ∧ (isOpen → |e.mean| ≤ (st.residualThreshold : Int) → classed .isolated)
      ∧ (e.condition = .closed ∨ e.condition = .jammedClosed ∨ e.condition = .absent →
        (e.saturation = .plus ∨ (st.overThreshold : Int) ≤ e.mean → classed (.abnormal .over))
        ∧ (e.saturation ≠ .plus → e.mean < (st.overThreshold : Int) →
          e.saturation = .minus ∨ e.mean ≤ -(st.reverseThreshold : Int) → classed (.abnormal .reverse))))

/-- The group references (R42 to R45): members counted by peer group; the median is the lower median of the eligible
means when there are at least 3, and then the group is dim when it is below the light gate. -/
def Obligations.GroupReferences : Prop :=
  ∀ (s : State) (l : Nat) (r : SweepRecord) (g : Fin 6) (members eligible : List Pos),
    members.Nodup → (∀ p, p ∈ members ↔ s.settings.peerGroup.get p = g.succ) →
    eligible.Nodup → (∀ p, p ∈ eligible ↔ EligibleMember s g p (r.entry p)) →
    let n := eligible.length
    let entry := fun median dim => (s.assess l r).groups[g.val]? = some ⟨members.length, n, median, dim⟩
    (n < 3 → entry none false)
    ∧ (3 ≤ n → ∃ p ∈ eligible,
        let m := (r.entry p).mean
        (eligible.filter (fun k => (r.entry k).mean < m)).length ≤ (n - 1) / 2
        ∧ (n - 1) / 2 < (eligible.filter (fun k => (r.entry k).mean ≤ m)).length
        ∧ entry (some m) (decide (m < (s.settings.lightGate : Int))))

/-- The relative classes (R46 to R50): NO_REF without a group or a reference, DIM below the light gate; else the
effective ratio, the expected current limited to 2047 and the deviation clamped to −1000 to 999, each rounded as its
rule says, and the class by the open threshold 900 and the low threshold. -/
def Obligations.RelativeClasses : Prop :=
  ∀ (s : State) (l : Nat) (r : SweepRecord) (p : Pos) (e : PosEntry), r.entries[p.val]? = some e →
    PendingRelative s p e →
    let after := fun (x : PosEntry) => (s.assess l r).entries[p.val]? = some x
    (s.settings.peerGroup.get p = 0 → after { e with cls := some .noRef })
    ∧ ∀ (g : Fin 6) (grp : GroupEntry), s.settings.peerGroup.get p = g.succ →
      (s.assess l r).groups[g.val]? = some grp →
      let w : Int := (s.settings.blendWeight.get g).val
      (grp.median = none → after { e with cls := some .noRef })
      ∧ ∀ m : Int, grp.median = some m →
        (m < (s.settings.lightGate : Int) → after { e with cls := some .dim })
        ∧ ∀ ratio x₀ d₀ : Int, (s.settings.lightGate : Int) ≤ m →
          |3 * ratio - (w * (s.pos p).ratio + (3 - w) * 1024)| ≤ 1 →
          2048 * x₀ ≤ 2 * (m * ratio) + 1024 → 2 * (m * ratio) + 1024 < 2048 * x₀ + 2048 →
          let x := min x₀ 2047
          let n := 1000 * (e.mean - x)
          0 < x → 2 * |x * d₀ - n| ≤ x → (2 * |x * d₀ - n| = x → |n| < |x * d₀|) →
          let d := max (-1000) (min d₀ 999)
          let cls : Machine.Class :=
            if d ≤ -900 then .abnormal .opened
            else if d ≤ -(s.settings.lowThreshold : Int) then .abnormal .low else .normal
          after { e with cls := some cls, expected := some x, deviation := some d }

/-- The learning step (R53, R54): while learning is on, a position classed NORMAL whose qualifier is CLEAR and whose
role is not UNUSED moves by the thirty-second part, truncated, of the difference to its observed ratio, within 256 to
1280; every other ratio keeps its value. Each position's last class is kept, and nothing else changes. -/
def Obligations.LearningStep : Prop :=
  ∀ (s : State) (r : SweepRecord),
    let u := learn r s
    u = { s with positions := u.positions }
    ∧ ∀ p : Pos,
      let x := s.pos p
      let cls := ((r.entry p).cls).getD .unused
      let learns := s.settings.learningEnable = true ∧ cls = .normal ∧ x.qual.state = .clear ∧ s.role p ≠ .unused
      (¬ learns → u.pos p = { x with lastClass := some cls })
      ∧ ∀ (g : Fin 6) (grp : GroupEntry) (m q₀ : Int), learns → s.settings.peerGroup.get p = g.succ →
        r.groups[g.val]? = some grp → grp.median = some m → 0 < m →
        2 * m * q₀ ≤ 2048 * (r.entry p).mean + m → 2048 * (r.entry p).mean + m < 2 * m * q₀ + 2 * m →
        let q := max 256 (min q₀ 1280)
        u.pos p = { x with
          lastClass := some cls
          ratio := (max 256 (min ((x.ratio : Int) + (q - x.ratio).tdiv 32) 1280)).toNat }

/-! ### The Fault Qualifier -/

/-- What a position's record does with a routine class, short of an event of its own (R61 to R64, R69, R71, R76, Table
4-2): counting, holding and abandoning a suspicion, the recheck timer, the confirm counts. A class that reaches the
debounce does what DECLARATION does. That DECLARATION is this share of a completion as a command of its own is the
model's choice (log entry 7). -/
def Obligations.ClassTaken : Prop :=
  ∀ (s : State) (p : Pos) (cls : Machine.Class) (recorded : Condition),
    let st := s.settings
    let q := (s.pos p).qual
    let takes := fun (x : QualRecord) => takeClass p cls recorded s = setQual p x s
    let inconclusive := cls = .dim ∨ cls = .noRef ∨ cls = .unsettled ∨ cls = .isolated ∨ cls = .residual ∨ cls = .excluded
    (s.role p = .unused ∨ (cls = .unused ∧ q.state ≠ .waiting) → takeClass p cls recorded s = s)
    ∧ (s.role p ≠ .unused →
      (∀ c, cls = .abnormal c →
        let n := if q.cls = some c then q.count + 1 else 1
        (q.state = .clear → 1 < st.debounce c → takes { q with state := .suspect, cls := some c, count := 1, holdCount := 0 })
        ∧ (q.state = .suspect → n < st.debounce c → takes { q with cls := some c, count := n, holdCount := 0 })
        ∧ (q.state = .recheck → recorded = .closed → n < st.debounce c →
            takes { q with cls := some c, count := n, confirm := some 0 })
        ∧ ((q.state = .clear ∧ st.debounce c ≤ 1) ∨ (q.state = .suspect ∧ st.debounce c ≤ n)
            ∨ (q.state = .recheck ∧ recorded = .closed ∧ st.debounce c ≤ n) →
          exec (.declaration p c) s = .next (conclude s (takeClass p cls recorded s)))
        ∧ (q.state = .reported → takes { q with confirm := some 0 }))
      ∧ (q.state = .clear → (cls = .normal ∨ inconclusive) → takeClass p cls recorded s = s)
      ∧ (q.state = .suspect → cls = .normal → takes { q with state := .clear, cls := none, count := 0, holdCount := 0 })
      ∧ (q.state = .suspect → inconclusive → q.holdCount + 1 < st.holdLimit → takes { q with holdCount := q.holdCount + 1 })
      ∧ (q.state = .suspect → inconclusive → st.holdLimit ≤ q.holdCount + 1 →
          takes { q with state := .clear, cls := none, count := 0, holdCount := 0 })
      ∧ (∀ t, q.state = .waiting → q.timer = some t → 1 < t → takes { q with timer := some (t - 1) })
      ∧ (∀ n, q.state = .recheck → cls = .normal → recorded = .closed → q.confirm = some n → n + 1 < st.confirmCount →
          takes { q with confirm := some (n + 1), cls := none, count := 0 })
      ∧ (q.state = .recheck → (inconclusive ∨ recorded ≠ .closed) → takeClass p cls recorded s = s)
      ∧ (∀ n, q.state = .reported → cls = .normal → q.confirm = some n → n + 1 < st.confirmCount →
          takes { q with confirm := some (n + 1) })
      ∧ (q.state = .reported → inconclusive → takeClass p cls recorded s = s)
      ∧ (q.state = .declared ∨ q.state = .latched → takeClass p cls recorded s = s))

/-- DECLARATION (R62, R63, R65 to R68, R71): at the debounce of the class, a MONITORED position becomes REPORTED, and
a SWITCHED one DECLARED with FAULT inserted for the class; FAULT SET follows. A position that stands OPEN goes on to
WAITING where the class is LOW or OPEN and a trial remains, else to LATCHED; one whose switch is in a switch fault
goes to LATCHED. The command is one position's share of a completion, and FAULT SET comes before a WALK CLEAR that the
insertion brings about: the model's choices (log entries 7 and 28). -/
def Obligations.FaultDeclared : Prop :=
  ∀ (s : State) (p : Pos) (c : Abnormal),
    let q := (s.pos p).qual
    let n := if q.state ≠ .clear ∧ q.cls = some c then q.count + 1 else 1
    let rc : QualRecord :=
      { q with cls := some c, count := n, holdCount := 0, reason := some (.fault c), confirm := none }
    q.state = .clear ∨ q.state = .suspect ∨ q.state = .recheck → s.settings.debounce c ≤ n →
    (s.role p = .monitored → exec (.declaration p c) s = .next
      (emit .fault .set (some p) (.reason (.fault c)) (setQual p { rc with state := .reported, confirm := some 0 } s)))
    ∧ (s.role p = .switched →
      let v := setQual p { rc with state := .declared } s
      let u := reclosingAfter .fault true [p] v (emit .fault .set (some p) (.reason (.fault c))
        (changeHolder .fault true (some (.fault c)) [p] v))
      let k := (s.pos p).condition
      let offered := (c = .low ∨ c = .opened) ∧ 0 < q.trials
      (k = .closed ∨ k = .moving ∨ k = .absent → exec (.declaration p c) s = .next (conclude s u))
      ∧ (k = .opened → offered → exec (.declaration p c) s = .next
          (conclude s (setQual p { rc with state := .waiting, timer := some s.settings.recheckInterval } u)))
      ∧ ((k = .opened ∧ ¬ offered) ∨ k = .jammedClosed ∨ k = .jammedOpen ∨ k = .conductingOpen →
          exec (.declaration p c) s = .next
            (conclude s (markRetained (setQual p { rc with state := .latched, timer := none } u)))))

/-- SUSPICION_ABANDONED, TRIAL_SUCCESS and REPORTED_RECOVERY (R64, R72, R76): the record returns to CLEAR; the last
two restore the trials and produce FAULT CLEAR with the reason that stood. RECHECK_TIMER_EXPIRY (R69, R70): with no
trial left the record latches; with FAULT the only holder and the switch OPEN a trial begins and FAULT is removed;
else the timer is set again to the recheck interval. Each command does what the record does when it takes the class
that brings the event about. Each command is one position's share of a completion: the model's choice (log entry 7).
-/
def Obligations.RecordsRunOut : Prop :=
  (∀ (s : State) (p : Pos), s.role p ≠ .unused →
    let q := (s.pos p).qual
    let cleared : QualRecord := ⟨.clear, none, 0, 0, none, none, none, s.settings.trialCount⟩
    (q.state = .suspect → s.settings.holdLimit ≤ q.holdCount + 1 →
      exec (.suspicionAbandoned p) s
        = .next (setQual p { q with state := .clear, cls := none, count := 0, holdCount := 0 } s)
      ∧ ∀ (cls : Machine.Class) (recorded : Condition),
        cls ∈ ([.dim, .noRef, .unsettled, .isolated, .residual, .excluded] : List Machine.Class) →
        exec (.suspicionAbandoned p) s = .next (takeClass p cls recorded s))
    ∧ ∀ (n : Nat) (k : Reason), q.confirm = some n → s.settings.confirmCount ≤ n + 1 → q.reason = some k →
      (q.state = .recheck → exec (.trialSuccess p) s
          = .next (emit .fault .clear (some p) (.reason k) (setQual p cleared s))
        ∧ exec (.trialSuccess p) s = .next (takeClass p .normal .closed s))
      ∧ (q.state = .reported → exec (.reportedRecovery p) s
          = .next (emit .fault .clear (some p) (.reason k) (setQual p cleared s))
        ∧ ∀ recorded, exec (.reportedRecovery p) s = .next (takeClass p .normal recorded s)))
    ∧ ∀ (s : State) (p : Pos) (t : Nat),
      let x := s.pos p
      let q := x.qual
      let free := x.holds = ⟨true, false, false, false, false, false⟩ ∧ x.condition = .opened
      s.role p ≠ .unused → q.state = .waiting → q.timer = some t → t ≤ 1 →
      (q.trials = 0 → exec (.recheckTimerExpiry p) s
          = .next (conclude s (markRetained (setQual p { q with state := .latched, timer := none, confirm := none } s))))
      ∧ (q.trials ≠ 0 → free → exec (.recheckTimerExpiry p) s = .next (conclude s (changeHolds .fault false none [p]
          (setQual p ⟨.recheck, none, 0, 0, q.reason, none, some 0, q.trials - 1⟩ s))))
      ∧ (q.trials ≠ 0 → ¬ free → exec (.recheckTimerExpiry p) s
          = .next (setQual p { q with timer := some s.settings.recheckInterval } s))
      ∧ ∀ cls recorded, exec (.recheckTimerExpiry p) s = .next (conclude s (takeClass p cls recorded s))

/-- The residual counter (R79, R80, R116): RESIDUAL on a SWITCHED position recorded OPEN raises it, to at most 15 (log
entry 14), and ISOLATED clears it. RESIDUAL_DEBOUNCE_REACHED: at the residual debounce a position that stands OPEN
becomes CONDUCTING_OPEN, its order is removed, SWITCH SET is produced and the report is handed on. The command is one
position's share of a completion: the model's choice (log entry 7). -/
def Obligations.ResidualCounted : Prop :=
  ∀ (s : State) (p : Pos) (cls : Machine.Class) (recorded : Condition),
    let n := min ((s.pos p).residual + 1) 15
    let raised := setResidual p n s
    (cls = .isolated → takeResidual p cls recorded s = setResidual p 0 s)
    ∧ (cls = .residual → recorded = .opened → s.role p = .switched → n < s.settings.residualDebounce →
        takeResidual p cls recorded s = raised)
    ∧ (cls ≠ .isolated → ¬ (cls = .residual ∧ recorded = .opened ∧ s.role p = .switched) →
        takeResidual p cls recorded s = s)
    ∧ (s.role p = .switched → s.settings.residualDebounce ≤ n →
      ((s.pos p).condition = .opened → exec (.residualDebounceReached p) s = .next (conclude s
          (handOn p .conductingOpen (emit .switch .set (some p) (.condition .conductingOpen)
            (removeOrder p (setCondition p .conductingOpen raised))))))
      ∧ ((s.pos p).condition ≠ .opened → exec (.residualDebounceReached p) s = .next raised)
      ∧ (cls = .residual → recorded = .opened →
          exec (.residualDebounceReached p) s = .next (conclude s (takeResidual p cls recorded s))))

/-- What a condition report does in the Qualifier and in the walk (R68, R74, R79, R88, R140, R141, R143). -/
def Obligations.ReportsHandedOn : Prop :=
  ∀ (s : State) (p : Pos) (c : Condition),
    let q := (s.pos p).qual
    let w := s.walk
    let offered := (q.reason = some (.fault .low) ∨ q.reason = some (.fault .opened)) ∧ 0 < q.trials
    let latched := markRetained (setQual p { q with state := .latched, timer := none, confirm := none } s)
    let fault := c = .jammedClosed ∨ c = .jammedOpen ∨ c = .conductingOpen
    handOn p c s = walkReport p c (qualReport p c s)
    ∧ (c = .opened → q.state = .declared → offered →
        qualReport p c s = setQual p { q with state := .waiting, timer := some s.settings.recheckInterval } s)
    ∧ (c = .opened → q.state = .declared → ¬ offered → qualReport p c s = latched)
    ∧ (c = .closed → qualReport p c s = setResidual p 0 s)
    ∧ (fault → q.state = .declared ∨ q.state = .waiting → qualReport p c s = latched)
    ∧ (fault → q.state = .recheck → qualReport p c s = changeHolds .fault true q.reason [p] latched)
    ∧ ((c = .opened ∧ q.state ≠ .declared) ∨ c = .moving ∨ c = .absent
        ∨ (fault ∧ q.state ≠ .declared ∧ q.state ≠ .waiting ∧ q.state ≠ .recheck) → qualReport p c s = s)
    ∧ (w.candidate = some p → w.state = .opening → c = .opened → walkReport p c s =
        { s with walk := { w with state := .settling, settleDue := some (s.now + s.settings.walkSettle * 1000) } })
    ∧ (w.candidate = some p → w.state = .opening → c = .jammedClosed →
        let u := changeHolds .locate false none [p] s
        walkReport p c s = nextCandidate { u with walk :=
          { u.walk with entries := u.walk.entries ++ [⟨p, w.baseline.getD 0, none, .skippedJammed⟩] } })
    ∧ (w.candidate = some p → w.state = .reclosing →
        settledAgainst (s.pos p).condition (s.pos p).holds.target = true → walkReport p c s = nextCandidate s)
    ∧ (w.candidate ≠ some p
        ∨ (w.state ≠ .opening ∧ w.state ≠ .reclosing)
        ∨ (w.state = .opening ∧ c ≠ .opened ∧ c ≠ .jammedClosed)
        ∨ (w.state = .reclosing ∧ settledAgainst (s.pos p).condition (s.pos p).holds.target = false) →
        walkReport p c s = s)

/-- CLEAR_FAULT (R75, R77): a record that is CLEAR is answered OK and nothing changes; any other returns to CLEAR with
its trials restored and FAULT is removed. FAULT CLEAR is produced unless the record was SUSPECT, and a departure from
LATCHED marks the retained state. That FAULT CLEAR comes before a WALK CLEAR that the removal brings about is log
entry 28. -/
def Obligations.FaultCleared : Prop :=
  ∀ (q : Port) (station : Byte) (p : Pos) (s : State), q ≠ .linkP → Ready q station 0x22 [byte p.number] s →
    let x := (s.pos p).qual
    let v := setQual p ⟨.clear, none, 0, 0, none, none, none, s.settings.trialCount⟩ s
    let u := changeHolder .fault false none [p] v
    let done := fun t => exec (.clearFault q station [byte p.number]) s
      = .next (conclude s (answered q station 0x22 [0x00] (reclosingAfter .fault false [p] v t)))
    (x.state = .clear → exec (.clearFault q station [byte p.number]) s = .next (answered q station 0x22 [0x00] s))
    ∧ (x.state = .suspect → done u)
    ∧ ∀ k, x.reason = some k →
      (x.state = .declared ∨ x.state = .waiting ∨ x.state = .recheck ∨ x.state = .reported →
        done (emit .fault .clear (some p) (.reason k) u))
      ∧ (x.state = .latched → done (markRetained (emit .fault .clear (some p) (.reason k) u)))

/-! ### The Isolation Table -/

/-- One hold change (R84 to R87, R89, R93, R96): at each position of the list where the holder's presence changes, an
insertion reaching SWITCHED positions alone, the hold set, the fault reason and the last change follow; an insertion
that ends a RECHECK also inserts FAULT and interrupts the trial. PLANT, SITE and LOCKOUT changes produce HOLD notices,
and a LOCKOUT change marks the retained state. From a queue that the targets call for, orders the new targets no longer
call for are removed and new ones appended in the order of the list. Nothing else changes. -/
def Obligations.HoldsChanged : Prop :=
  ∀ (s : State) (h : Holder) (b : Bool) (r : Option Reason) (ps : List Pos), ps.Nodup →
    let t := changeHolder h b r ps s
    let changed := fun p => p ∈ ps ∧ (s.pos p).holds.has h ≠ b ∧ (b = true → s.role p = .switched)
    let ends := fun p => changed p ∧ b = true ∧ h ≠ .fault ∧ (s.pos p).holds = HoldSet.empty
      ∧ (s.pos p).qual.state = .recheck
    (∀ p,
      let x := s.pos p
      let q := x.qual
      (¬ changed p → t.pos p = x)
      ∧ (changed p → ¬ ends p → t.pos p = { x with
          holds := x.holds.put h b
          reason := if h = .fault then (if b = true then r else none) else x.reason
          lastChange := s.uptime })
      ∧ (ends p → t.pos p = { x with
          holds := (x.holds.put h true).put .fault true
          reason := q.reason
          lastChange := s.uptime
          qual := { q with
            state := .waiting, trials := min (q.trials + 1) s.settings.trialCount
            timer := some s.settings.recheckInterval, confirm := none, cls := none, count := 0 } }))
    ∧ t = { s with positions := t.positions, drive := t.drive, ports := t.ports, store := t.store }
    ∧ (∀ notified : List Pos, notified.Sublist ps → (∀ p, p ∈ notified ↔ changed p) →
        t.ports = (if h = .plant ∨ h = .site ∨ h = .lockout then
            notified.foldl (fun x p => emit .hold (if b then .set else .clear) (some p) (.holder h) x) s else s).ports
        ∧ t.store = (if h = .lockout ∧ notified ≠ [] then markRetained s else s).store)
    ∧ t.drive.batch = s.drive.batch
    ∧ (DriveLaws s →
        t.drive.openQ = s.drive.openQ.filter (fun o => decide ((t.pos o.position).holds ≠ HoldSet.empty))
          ++ (ps.filter (fun p => decide ((s.pos p).condition = .closed ∧ (s.pos p).holds = HoldSet.empty
              ∧ (t.pos p).holds ≠ HoldSet.empty))).map (fun p => ⟨p, s.uptime⟩)
        ∧ t.drive.closeQ = s.drive.closeQ.filter (fun o => decide ((t.pos o.position).holds = HoldSet.empty))
          ++ (ps.filter (fun p => decide ((s.pos p).condition = .opened ∧ (s.pos p).holds ≠ HoldSet.empty
              ∧ (t.pos p).holds = HoldSet.empty))).map (fun p => ⟨p, s.uptime⟩))

/-- PLACE_HOLD and RELEASE_HOLD (R90, R91, R94): where a position named is not SWITCHED the request is answered
NOT_SWITCHED and changes nothing; else the port's holder, PLANT, SITE or LOCKOUT, is put at the positions named, or
removed from them, in one hold change in ascending order, and the answer names the positions changed. The Service Port
needs the Lockout Key ON. -/
def Obligations.HoldsRequested : Prop :=
  ∀ (b : Bool) (q : Port) (station : Byte) (body : List Byte) (s : State),
    let code : Byte := if b then 0x20 else 0x21
    let c : Instr := if b then .placeHold q station body else .releaseHold q station body
    let h : Holder := match q with | .linkP => .plant | .linkS => .site | .service => .lockout
    let named := Pos.all.filter (fun p => (ofBytes body).testBit p.val)
    Ready q station code body s → body.length = 3 → named ≠ [] → (q = .service → s.key = true) →
    ((∃ p ∈ named, s.role p ≠ .switched) → exec c s = .next (answered q station code [0x07] s))
    ∧ ((∀ p ∈ named, s.role p = .switched) →
      exec c s = .next (conclude s (answered q station code
        (0x00 :: maskBytes (fun p => decide (p ∈ named ∧ (s.pos p).holds.has h ≠ b)))
        (changeHolds h b none named s))))

/-- The Switch Drive takes a target (R87, R108, Table 6-2): with the condition CLOSED or OPEN, a target that the
condition meets removes a queued order, and another appends one, of the uptime, unless one is queued; with any other
condition nothing happens. -/
def Obligations.TargetTaken : Prop :=
  ∀ (s : State) (p : Pos),
    let c := (s.pos p).condition
    let held := (s.pos p).holds ≠ HoldSet.empty
    let queued := ∃ o, (o ∈ s.drive.openQ ∨ o ∈ s.drive.closeQ) ∧ o.position = p
    let others := fun (q : List Order) => q.filter (fun o => decide (o.position ≠ p))
    ((c = .closed ∧ ¬ held) ∨ (c = .opened ∧ held) → takeTarget p s =
      { s with drive := { s.drive with openQ := others s.drive.openQ, closeQ := others s.drive.closeQ } })
    ∧ ((c = .closed ∧ held) ∨ (c = .opened ∧ ¬ held) → queued → takeTarget p s = s)
    ∧ (c = .closed → held → ¬ queued →
      takeTarget p s = { s with drive := { s.drive with openQ := s.drive.openQ ++ [⟨p, s.uptime⟩] } })
    ∧ (c = .opened → ¬ held → ¬ queued →
      takeTarget p s = { s with drive := { s.drive with closeQ := s.drive.closeQ ++ [⟨p, s.uptime⟩] } })
    ∧ (c ≠ .closed → c ≠ .opened → takeTarget p s = s)

/-- CLEAR_SWITCH (R118): a switch that is in no switch fault is answered OK with its condition and nothing changes; one
that is takes the condition its contact reads, its residual counter becomes 0, SWITCH CLEAR is produced with that
condition, the target is taken and the report handed on; the answer carries the condition. That the condition answered
is the one read, where a batch formed by the same event makes it MOVING, is the model's choice (log entry 24). -/
def Obligations.SwitchCleared : Prop :=
  ∀ (station : Byte) (p : Pos) (c : Contacts) (s : State), s.key = true → Ready .service station 0x23 [byte p.number] s →
    let k := (s.pos p).condition
    let read : Condition := if c.getLsbD p.val then .closed else .opened
    let faulty := k = .jammedClosed ∨ k = .jammedOpen ∨ k = .conductingOpen
    (¬ faulty → exec (.clearSwitch .service station [byte p.number] c) s
        = .next (answered .service station 0x23 [0x00, byte k.code] s))
    ∧ (faulty → exec (.clearSwitch .service station [byte p.number] c) s = .next (conclude s
        (answered .service station 0x23 [0x00, byte read.code]
          (handOn p read (takeTarget p (emit .switch .clear (some p) (.condition read)
            (setResidual p 0 (setCondition p read s))))))))

/-- How an event ends (R109, R110, R169, R170): when it has appended an order and no batch is in flight, BATCH_START
happens; when it has set a write waiting and the store is free, the first waiting write starts. That the command rows
act on what stands, and that the event's own end does the same, is the model's choice (log entries 8 and 18). -/
def Obligations.EventEnds : Prop :=
  ∀ s₀ s : State,
    let new := (∃ o ∈ s.drive.openQ, o ∉ s₀.drive.openQ) ∨ ∃ o ∈ s.drive.closeQ, o ∉ s₀.drive.closeQ
    (new → exec .batchStart s = .next (formBatchAfter s₀ s)) ∧ (¬ new → formBatchAfter s₀ s = s)
    ∧ (s.store.waiting = s₀.store.waiting ∨ s.store.writing ≠ none → conclude s₀ s = formBatchAfter s₀ s)
    ∧ (s.store.waiting ≠ s₀.store.waiting → s.store.writing = none →
      (∀ snapshot rest, s.store.waiting = .save snapshot :: rest →
        exec .saveWriteStart (formBatchAfter s₀ s) = .next (conclude s₀ s))
      ∧ (∀ rest, s.store.waiting = .retained :: rest →
        exec .retainedWriteStart (formBatchAfter s₀ s) = .next (conclude s₀ s)))

/-! ### Notices -/

/-- A notice offered (R151 to R154): it carries the last sweep number and the uptime; each port's queue keeps it when
the port's subscription for its kind includes its edge and fewer than 32 notices stand; a queue that is full drops it
and sets its overflow flag. Nothing else changes. -/
def Obligations.NoticeOffered : Prop :=
  ∀ (s : State) (k : NoticeKind) (e : Edge) (p : Option Pos) (d : Detail),
    let t := emit k e p d s
    t = { s with ports := t.ports }
    ∧ ∀ q : Port,
      let x := s.ports.get q
      let sub := (s.settings.subscription.get q).get k
      let wanted := sub = .both ∨ (sub = .set ∧ e = .set) ∨ (sub = .clear ∧ e = .clear)
      (¬ wanted → t.ports.get q = x)
      ∧ (wanted → x.notices.length < 32 →
          t.ports.get q = { x with notices := x.notices ++ [⟨k, e, p, d, s.seq.lastNumber, s.uptime⟩] })
      ∧ (wanted → 32 ≤ x.notices.length → t.ports.get q = { x with overflow := true })

/-- FETCH_NOTICES (R155, Table 9-2): the oldest 16 notices, or all when there are fewer, are taken from the port's
queue and answered in order, with the number still queued and the overflow flag, which is cleared. -/
def Obligations.NoticesFetched : Prop :=
  ∀ (q : Port) (station : Byte) (s : State) (taken kept : List Notice), Ready q station 0x40 [] s →
    let x := s.ports.get q
    x.notices = taken ++ kept → (taken.length = 16 ∨ (taken.length < 16 ∧ kept = [])) →
    exec (.fetchNotices q station []) s = .next (answered q station 0x40
      (0x00 :: [byte taken.length, byte kept.length, if x.overflow then 1 else 0]
        ++ taken.flatMap (fun n =>
          [byte (kindCode n.kind), byte n.edge.code, byte ((n.position.map Pos.number).getD 0), byte n.detail.code]
            ++ bytes4 n.sweep ++ bytes4 n.uptime))
      { s with ports := s.ports.set q { x with notices := kept, overflow := false } })

/-! ### Settings -/

/-- The rows that write a numeric setting: WRITE_ROUTINE_INTERVAL, WRITE_QUALIFIER_SETTING, WRITE_SWITCH_TIMING,
WRITE_RESTORE_DELAY, WRITE_LEAKAGE_SETTING, WRITE_WALK_SETTING (but auto-walk), WRITE_LINK_SETTING (but a speed) and
WRITE_SETTING with such a code (R167). The value is clamped to its range; a value that stands changes nothing; another
becomes the working copy's, restarts the routine timer (R22), limits trials and recheck timers (R81), and is applied
to a link whose receiver is IDLE (R157). The answer carries the value that then stands. The restarted timer counts
from the whole second that stands (log entry 27, the model's choice). -/
def Obligations.NumbersWritten : Prop :=
  ∀ (c : Instr) (f : RequestFrame) (code index hi lo : Byte) (n : Number) (s : State),
    requestOf c = some f → f.code = 0x51 → f.body = [code, index, hi, lo] → f.port ≠ .linkP →
    Setting.ofCode code.toNat index.toNat = some (.number n) → Ready f.port f.station f.code f.body s →
    let v := max n.range.1 (min (hi.toNat * 256 + lo.toNat) n.range.2)
    let st := s.settings.setNumber n v
    let u := { s with settings := st }
    let done := fun t => exec c s
      = .next (answered f.port f.station 0x51 [0x00, code, index, byte (v / 256), byte v] t)
    (v = s.settings.number n → done s)
    ∧ (v ≠ s.settings.number n →
      (n = .routineInterval → done { u with seq := { s.seq with routineDue := s.now / 1000 + v } })
      ∧ (n = .trialCount → done { u with positions := s.positions.map (fun x =>
          { x with qual := { x.qual with trials := min x.qual.trials v } }) })
      ∧ (n = .recheckInterval → done { u with positions := s.positions.map (fun x =>
          { x with qual := { x.qual with timer := x.qual.timer.map (fun k => min k v) } }) })
      ∧ (n = .stationP →
          done (if s.ports.linkP.receiver = .idle then
            { u with ports := { s.ports with linkP := { s.ports.linkP with station := v, speed := st.speedP } } } else u))
      ∧ (n = .stationS →
          done (if s.ports.linkS.receiver = .idle ∧ f.port ≠ .linkS then
            { u with ports := { s.ports with linkS := { s.ports.linkS with station := v, speed := st.speedS } } } else u))
      ∧ (n ∉ [.routineInterval, .trialCount, .recheckInterval, .stationP, .stationS] → done u))

/-- The rows that write an enumerated setting or a blend weight: WRITE_PEER_GROUP, WRITE_EXCLUSION_FLAG,
WRITE_BLEND_WEIGHT, WRITE_LEARNING_ENABLE, WRITE_WALK_SETTING (auto-walk), WRITE_LINK_SETTING (a speed),
WRITE_SUBSCRIPTION, and WRITE_SETTING with such a code (R12, R13, R55, R149, R153, R157, R167). A value outside the
list is answered BAD_BODY, and a blend weight is clamped to 3. A value that stands changes nothing; a changed peer
group also sets the learned ratio to 1024, and a changed speed is applied to a link whose receiver is IDLE. -/
def Obligations.ChoicesWritten : Prop :=
  ∀ (c : Instr) (f : RequestFrame) (code index hi lo : Byte) (x : Setting) (s : State),
    requestOf c = some f → f.code = 0x51 → f.body = [code, index, hi, lo] → f.port ≠ .linkP →
    Setting.ofCode code.toNat index.toNat = some x → Ready f.port f.station f.code f.body s →
    let v := hi.toNat * 256 + lo.toNat
    let done := fun value t => exec c s
      = .next (answered f.port f.station 0x51 [0x00, code, index, byte (value / 256), byte value] t)
    let refused := exec c s = .next (answered f.port f.station 0x51 [0x02] s)
    let st := s.settings
    let idleWith := fun (l : Link) (t : State) =>
      let y : PortState :=
        { t.ports.get l.port with station := t.settings.station l, speed := t.settings.speed l }
      if (s.ports.get l.port).receiver = .idle ∧ f.port ≠ l.port then { t with ports := t.ports.set l.port y } else t
    (∀ p, x = .peerGroup p →
      (6 < v → refused) ∧ (v = (st.peerGroup.get p).val → done v s)
      ∧ (∀ g : Fin 7, v = g.val → g ≠ st.peerGroup.get p →
          done v { setRatio p 1024 s with settings := { st with peerGroup := st.peerGroup.set p g } }))
    ∧ (∀ p, x = .exclusion p → (1 < v → refused)
      ∧ (v ≤ 1 → done v { s with settings := { st with excluded := st.excluded.set p (decide (v = 1)) } }))
    ∧ (∀ g, x = .blendWeight g → ∀ w : Fin 4, w.val = min v 3 →
        done w.val { s with settings := { st with blendWeight := st.blendWeight.set g w } })
    ∧ (x = .learningEnable → (1 < v → refused)
      ∧ (v ≤ 1 → done v { s with settings := { st with learningEnable := decide (v = 1) } }))
    ∧ (x = .autoWalk → (1 < v → refused)
      ∧ (v ≤ 1 → done v { s with settings := { st with autoWalk := decide (v = 1) } }))
    ∧ (x = .speed .p → (v ∉ [9600, 19200, 38400] → refused)
      ∧ (∀ b, v = LinkSpeed.baud b → b = st.speedP → done v s)
      ∧ (∀ b, v = LinkSpeed.baud b → b ≠ st.speedP → done v (idleWith .p { s with settings := { st with speedP := b } })))
    ∧ (x = .speed .s → (v ∉ [9600, 19200, 38400] → refused)
      ∧ (∀ b, v = LinkSpeed.baud b → b = st.speedS → done v s)
      ∧ (∀ b, v = LinkSpeed.baud b → b ≠ st.speedS → done v (idleWith .s { s with settings := { st with speedS := b } })))
    ∧ (∀ q k, x = .subscription q k → (3 < v → refused)
      ∧ (∀ b : Subscription, v = b.code → done v { s with settings :=
          { st with subscription := st.subscription.set q ((st.subscription.get q).set k b) } }))

/-- WRITE_ROLE, and WRITE_SETTING with the code of a role (R7 to R11). The role that stands is answered OK and changes
nothing. Away from SWITCHED it is answered NOT_ISOLATED and changes nothing unless the condition is OPEN and neither
LOCKOUT nor LOCATE is held. A position that leaves SWITCHED loses its order and its holds, is ABSENT, and has its
record cleared; one that becomes SWITCHED reads its contact, holds SAFETY outside ARMED and nothing else, and is
reconciled; between the other roles the record is cleared. Every change answers with the role and clears the residual
counter. That a position leaving SWITCHED with no hold takes the uptime as its last hold change, by R9 and not by R85,
is the model's choice (log entry 30). -/
def Obligations.RoleWritten : Prop :=
  ∀ (q : Port) (station : Byte) (p : Pos) (r : Role) (c : Contacts) (s : State), q ≠ .linkP →
    Ready q station 0x51 [0x20, byte p.number, 0, byte r.code] s →
    let x := s.pos p
    let answer : List Byte := [0x00, 0x20, byte p.number, 0, byte r.code]
    let roles := { s with settings := { s.settings with role := s.settings.role.set p r } }
    let clear : QualRecord := ⟨.clear, none, 0, 0, none, none, none, s.settings.trialCount⟩
    let faultClear := fun t =>
      if x.qual.state = .clear ∨ x.qual.state = .suspect then t
      else emit .fault .clear (some p) (reasonDetail x.qual.reason) t
    let holdClear := fun (h : Holder) t => if x.holds.has h then emit .hold .clear (some p) (.holder h) t else t
    ∀ i : Instr, i = .writeRole q station (byte p.number) (BitVec.ofNat 16 r.code) c
        ∨ i = .writeSetting q station [0x20, byte p.number, 0, byte r.code] c →
    let command := exec i s
    (r = s.role p → command = .next (answered q station 0x51 answer s))
    ∧ (r ≠ s.role p → s.role p = .switched → x.condition ≠ .opened ∨ x.holds.lockout = true ∨ x.holds.locate = true →
      command = .next (answered q station 0x51 [0x08] s))
    ∧ (r ≠ s.role p → s.role p = .switched → x.condition = .opened → x.holds.lockout = false → x.holds.locate = false →
      let left := (setCondition p .absent (removeOrder p roles)).modify p (fun y => { y with
        holds := HoldSet.empty, reason := none, lastChange := s.uptime, qual := clear, residual := 0 })
      let u := faultClear (holdClear .site (holdClear .plant left))
      command = .next (conclude s (answered q station 0x51 answer
        (walkReport p .absent (if x.qual.state = .latched then markRetained u else u)))))
    ∧ (r ≠ s.role p → s.role p ≠ .switched → r = .switched →
      let read : Condition := if c.getLsbD p.val then .closed else .opened
      let outside := s.safety.state ≠ .armed
      let entered := (setCondition p read roles).modify p (fun y => { y with
        holds := { HoldSet.empty with safety := decide outside }, reason := none
        lastChange := if outside then s.uptime else y.lastChange, qual := clear, residual := 0 })
      command = .next (conclude s (answered q station 0x51 answer (handOn p read (takeTarget p (faultClear entered))))))
    ∧ (r ≠ s.role p → s.role p ≠ .switched → r ≠ .switched →
      command = .next (answered q station 0x51 answer
        (faultClear (roles.modify p (fun y => { y with qual := clear, residual := 0 })))))

/-! ### The Retained Store -/

/-- SAVE_SETTINGS (R168): BUSY while a save waits or is being written; else the whole working copy is its snapshot, it
waits for the store, and the event ends as EventEnds says. -/
def Obligations.SettingsSaved : Prop :=
  ∀ (q : Port) (station : Byte) (s : State), q ≠ .linkP → Ready q station 0x52 [] s →
    let saving := (∃ st, Waiting.save st ∈ s.store.waiting) ∨ ∃ k c, s.store.writing = some (.save k c)
    (saving → exec (.saveSettings q station []) s = .next (answered q station 0x52 [0x09] s))
    ∧ (¬ saving → exec (.saveSettings q station []) s = .next (conclude s (answered q station 0x52 [0x00]
        { s with store := { s.store with waiting := s.store.waiting ++ [.save s.settings] } })))

/-- The newer of two good copies of the settings image (R168) or of the retained image (R169): the one whose count
follows the other's, 1 following 4,294,967,295; of two that do not follow one another the higher count, and copy 1
when they are equal; a lone good copy is the newer. A write goes to the other copy with the count that follows, or to
copy 1 with count 1 when no copy is good. -/
def Obligations.NewerCopy : Prop :=
  ∀ (α : Type) (im : Image α) (a b : Copy α),
    let follows := fun m n : Nat => if n = 4294967295 then m = 1 else m = n + 1
    let im₁ : Image α := ⟨some a, none⟩
    let im₂ : Image α := ⟨none, some b⟩
    let both : Image α := ⟨some a, some b⟩
    im₁.newer = some .copy1 ∧ im₂.newer = some .copy2 ∧ (⟨none, none⟩ : Image α).newer = none
    ∧ (a.count ≤ 4294967295 → b.count ≤ 4294967295 →
      (follows a.count b.count → both.newer = some .copy1)
      ∧ (follows b.count a.count → both.newer = some .copy2)
      ∧ (¬ follows a.count b.count → ¬ follows b.count a.count →
          both.newer = some (if a.count < b.count then .copy2 else .copy1)))
    ∧ (im.newer = none → im.writeCopy = .copy1 ∧ im.writeCount = 1)
    ∧ (∀ k c, im.newer = some k → im.get k = some c → c.count ≤ 4294967295 →
      im.writeCopy ≠ k ∧ follows im.writeCount c.count)

/-- SAVE_WRITE_START and RETAINED_WRITE_START (R168 to R170): when the store is free the first waiting write starts;
the copy it writes is first marked invalid; a save writes its snapshot, a retained write the lockouts, the latched
positions with their reasons and the ratio snapshot as they stand. SAVE_COMPLETE and RETAINED_WRITE_COMPLETE: the copy
written is good when its read-back matches; the save outcome, or the retained valid flag, says so; a retained write
that does not match is marked again; and the store takes the first waiting write. A save copy that does not match is
not good: that is read from R168 (log entry 10). That the start rows act on a waiting write that stands is the model's
choice (log entry 8). -/
def Obligations.StoreWrites : Prop :=
  (∀ s : State,
    let x := s.store
    (∀ snapshot rest, x.writing = none → x.waiting = .save snapshot :: rest →
      let k := x.settingsImage.writeCopy
      exec .saveWriteStart s = .next { s with store :=
        { x with
          waiting := rest, settingsImage := x.settingsImage.set k none
          writing := some (.save k ⟨snapshot, x.settingsImage.writeCount⟩) } })
    ∧ (∀ rest, x.writing = none → x.waiting = .retained :: rest →
      let k := x.retainedImage.writeCopy
      ∃ content : Retained,
        (∀ p, content.lockouts.get p = (s.pos p).holds.lockout
          ∧ content.latched.get p = (if (s.pos p).qual.state = .latched then (s.pos p).qual.reason else none))
        ∧ content.ratios = x.ratioSnapshot
        ∧ exec .retainedWriteStart s = .next { s with store :=
          { x with
            waiting := rest, retainedImage := x.retainedImage.set k none
            writing := some (.retained k ⟨content, x.retainedImage.writeCount⟩) } })
    ∧ (x.writing ≠ none ∨ x.waiting = [] → exec .saveWriteStart s = .next s ∧ exec .retainedWriteStart s = .next s))
    ∧ ∀ (s : State) (good : Bool) (k : CopyName),
      let x := s.store
      let started := fun (t : State) =>
        (t.store.waiting = [] ∧ exec (.saveComplete good) s = .next t)
        ∨ (exec .saveWriteStart t = exec (.saveComplete good) s ∧ ∃ w rest, t.store.waiting = .save w :: rest)
        ∨ (exec .retainedWriteStart t = exec (.saveComplete good) s ∧ ∃ rest, t.store.waiting = .retained :: rest)
      let startedRetained := fun (t : State) =>
        (t.store.waiting = [] ∧ exec (.retainedWriteComplete good) s = .next t)
        ∨ (exec .saveWriteStart t = exec (.retainedWriteComplete good) s ∧ ∃ w rest, t.store.waiting = .save w :: rest)
        ∨ (exec .retainedWriteStart t = exec (.retainedWriteComplete good) s
            ∧ ∃ rest, t.store.waiting = .retained :: rest)
      (∀ c, x.writing = some (.save k c) → started { s with store :=
        { x with
          writing := none, settingsImage := x.settingsImage.set k (if good then some c else none)
          saveOutcome := if good then .ok else .failed } })
      ∧ (∀ c, x.writing = some (.retained k c) → startedRetained { s with store :=
        { x with
          writing := none, retainedImage := x.retainedImage.set k (if good then some c else none)
          retainedValid := good
          waiting := if good = true ∨ .retained ∈ x.waiting then x.waiting else x.waiting ++ [.retained] } })

/-- HOURLY_RATIO_MARK and RESET_RATIO (R56, R57): the mark copies the learned ratios into the ratio snapshot and marks
the retained state; the request sets one learned ratio to 1024 and changes nothing else. The event brings the clock to
its due moment (log entry 2, the model's choice). -/
def Obligations.RatiosMarkedAndReset : Prop :=
  ∀ s : State,
    (∃ snapshot : Vector Nat 24, (∀ p, snapshot.get p = (s.pos p).ratio)
      ∧ exec .hourlyRatioMark s = .next (conclude s { s with
          now := max s.now (s.nextHour * 1000), nextHour := s.nextHour + 3600
          store := { s.store with
            ratioSnapshot := snapshot
            waiting := if .retained ∈ s.store.waiting then s.store.waiting else s.store.waiting ++ [.retained] } }))
    ∧ ∀ (q : Port) (station : Byte) (p : Pos), q ≠ .linkP → Ready q station 0x53 [byte p.number] s →
      exec (.resetRatio q station [byte p.number]) s = .next (answered q station 0x53 [0x00]
        { s with positions := s.positions.set p { s.pos p with ratio := 1024 } })

/-! ### Safety Loop and Lockout Key -/

/-- LOOP_OPENING and LOOP_CLOSING (R122, R124, R125): an opening in ARMED trips: SAFETY is inserted at every SWITCHED
position in one hold change, SAFETY SET follows, and then a walk is told (R146; the order of the last two is log entry
13); in RESTORING it stops the restore timer; a closing in TRIPPED starts it. RESTORE_TIMER_EXPIRY (R126): the unit is
ARMED, SAFETY leaves every position in one hold change and SAFETY CLEAR follows; where that change settles the candidate
of a walk in RECLOSING, the walk goes on after SAFETY CLEAR, not before it (log entry 28, the model's choice).
KEY_CHANGE (R94) changes the key alone. A timer event brings the clock to its due moment (log entry 2, the model's
choice). -/
def Obligations.LoopEvents : Prop :=
  ∀ s : State,
    let switched := Pos.all.filter (fun p => decide (s.role p = .switched))
    let tripped := { s with safety := ⟨.tripped, none, false⟩ }
    (s.safety.state = .armed → exec .loopOpening s
      = .next (conclude s (abandonWalk (emit .safety .set none .absent (changeHolder .safety true none switched tripped)))))
    ∧ (s.safety.state = .restoring → exec .loopOpening s = .next tripped)
    ∧ (s.safety.state = .tripped → exec .loopClosing s = .next { s with
        safety := ⟨.restoring, some (s.now + s.settings.restoreDelay * 1000), true⟩ })
    ∧ (∀ due, s.safety.state = .restoring → s.safety.restoreDue = some due →
      let again := { s with now := max s.now due, safety := ⟨.armed, none, true⟩ }
      exec .restoreTimerExpiry s = .next (conclude s (reclosingAfter .safety false Pos.all again
        (emit .safety .clear none .absent (changeHolder .safety false none Pos.all again)))))
    ∧ ∀ on : Bool, exec (.keyChange on) s = .next { s with key := on }

/-- A hold change and the walk in RECLOSING (R143): where the hold set of its candidate changes and the candidate's
condition is then settled against its target, the walk goes on to its next candidate; that it does so after the HOLD
notices of the change is log entry 28, the model's choice. A condition is settled when it
is CLOSED with the target CLOSED, OPEN with the target OPEN, a switch fault, or ABSENT. A running walk is told of a
trip (R146): LOCATE leaves its candidate, and it ends ABANDONED. An ended walk (R144) keeps its record, a waiting
LOCATE sweep is withdrawn, a running one will hand its result to nobody, and WALK CLEAR is produced with the outcome.
-/
def Obligations.WalkReclosesAndEnds : Prop :=
  (∀ (s t : State) (h : Holder) (b : Bool) (ps : List Pos), t.walk = s.walk →
    let tested := fun p => s.walk.candidate = some p ∧ p ∈ ps ∧ (s.pos p).holds.has h ≠ b
      ∧ (b = true → s.role p = .switched) ∧ s.walk.state = .reclosing
      ∧ settledAgainst (t.pos p).condition (t.pos p).holds.target = true
    ((∃ p, tested p) → reclosingAfter h b ps s t = nextCandidate t)
      ∧ (¬ (∃ p, tested p) → reclosingAfter h b ps s t = t))
    ∧ (∀ (s : State) (h : Holder) (b : Bool) (r : Option Reason) (ps : List Pos),
      changeHolds h b r ps s = reclosingAfter h b ps s (changeHolder h b r ps s)
        ∧ (changeHolder h b r ps s).walk = s.walk)
    ∧ (∀ (c : Condition) (t : Target), settledAgainst c t = true ↔
      (c = .closed ∧ t = .closed) ∨ (c = .opened ∧ t = .opened)
        ∨ c = .jammedClosed ∨ c = .jammedOpen ∨ c = .conductingOpen ∨ c = .absent)
    ∧ ∀ (s : State) (o : WalkOutcome) (found : Option Pos),
      (s.walk.state = .idle → abandonWalk s = s)
      ∧ (s.walk.state ≠ .idle → ∀ p, s.walk.candidate = some p →
          abandonWalk s = endWalk .abandoned none (changeHolder .locate false none [p] s))
      ∧ endWalk o found s = emit .walk .clear found (.outcome o) { s with
          walk := { s.walk with state := .idle, outcome := some o, found := found, baseline := none, settleDue := none }
          seq := { s.seq with
            locateWaiting := false
            running := s.seq.running.map (fun x => { x with forWalk := false }) } }

/-! ### The Switch Drive -/

/-- BATCH_START (R4, R110, R111): with no batch in flight and an order queued, the oldest OPEN order, or the oldest
CLOSE order when there is none, fixes the switch group; every order of the group leaves the queue, its position
becomes MOVING with its gate on, and the batch keeps the orders with the conditions before, its start and the timing
settings; else nothing happens. That the command acts on a queue that stands is the model's choice (log entry 8). -/
def Obligations.BatchFormed : Prop :=
  ∀ s : State,
    (s.drive.batch ≠ none ∨ (s.drive.openQ = [] ∧ s.drive.closeQ = []) → exec .batchStart s = .next s)
    ∧ ∀ o : Order, s.drive.batch = none →
      (s.drive.openQ.head? = some o ∨ (s.drive.openQ = [] ∧ s.drive.closeQ.head? = some o)) →
      let inGroup := fun p : Pos => p.val / 6 = o.position.val / 6
      let opens := s.drive.openQ.filter (fun x => decide (inGroup x.position))
      let closes := s.drive.closeQ.filter (fun x => decide (inGroup x.position))
      let taken := opens.map (fun x => BatchOrder.mk x.position .opened (s.pos x.position).condition)
        ++ closes.map (fun x => BatchOrder.mk x.position .closed (s.pos x.position).condition)
      ∃ t, exec .batchStart s = .next t
        ∧ t = { s with positions := t.positions, seq := t.seq, drive := t.drive }
        ∧ t.drive =
          { openQ := s.drive.openQ.filter (fun x => decide (¬ inGroup x.position))
            closeQ := s.drive.closeQ.filter (fun x => decide (¬ inGroup x.position))
            batch := some
              { orders := taken, start := s.now, bypassSettle := s.settings.bypassSettle
                relayTravel := s.settings.relayTravel, nonOverlap := s.settings.nonOverlap, settled := false
                resetPulse := if opens = [] then .none else .due
                setPulse := if closes = [] then .none else .due } }
        ∧ (∀ p, (∃ x ∈ taken, x.position = p) → t.pos p = { s.pos p with condition := .moving, gate := true })
        ∧ (∀ p, (¬ ∃ x ∈ taken, x.position = p) → t.pos p = s.pos p)
        ∧ (∀ run, s.seq.running = some run → ∀ r, s.seq.slots.get run.slot = some r →
            t.seq = if ∃ x ∈ taken, x.position.val = r.entries.length ∧ (s.pos x.position).condition ≠ .moving
              then { s.seq with running := some { run with burstCondition := .moving } } else s.seq)
        ∧ (s.seq.running = none → t.seq = s.seq)

/-- BYPASS_SETTLE_EXPIRY, COIL_PULSE_END and NON_OVERLAP_EXPIRY (R102, R111, Table 6-3): at T1 the reset pulses begin,
or the set pulses of a closing batch; each pulse lasts 30 ms; the set pulses of a mixed batch begin TNO after the
reset pulses. Nothing else changes. While a pulse stands on a position, its group line and its position line in the
pulse's direction are energised and no others, and only one group line is (R4, Table 1-7). An event brings the clock
to its due moment, and the order of events is strict (log entries 2 and 17, the model's choices). -/
def Obligations.BatchSteps : Prop :=
  (∀ s : State, s.drive.batch = none →
    s.coilLines = ⟨Vector.replicate 4 false, Vector.replicate 6 false, Vector.replicate 6 false⟩)
    ∧ ∀ (s : State) (b : Batch), s.drive.batch = some b →
    let applied := fun o : BatchOrder =>
      (o.target = .opened ∧ b.resetPulse = .on) ∨ (o.target = .closed ∧ b.setPulse = .on)
    (∀ g : Fin 4, s.coilLines.group.get g = true ↔ ∃ o ∈ b.orders, applied o ∧ o.position.val / 6 = g.val)
    ∧ (∀ k : Fin 6,
      (s.coilLines.resetDriver.get k = true ↔
          ∃ o ∈ b.orders, applied o ∧ o.target = .opened ∧ o.position.val % 6 = k.val)
        ∧ (s.coilLines.setDriver.get k = true ↔
          ∃ o ∈ b.orders, applied o ∧ o.target = .closed ∧ o.position.val % 6 = k.val))
    ∧ (DriveLaws s → ∀ g g', s.coilLines.group.get g = true → s.coilLines.group.get g' = true → g = g')
    ∧
    let reached := fun (ms : Nat) (b' : Batch) =>
      { s with now := max s.now (b.start + ms), drive := { s.drive with batch := some b' } }
    let mixed := b.resetPulse ≠ .none
    let setStart := if mixed then b.bypassSettle + b.nonOverlap else b.bypassSettle
    (b.settled = false → b.resetPulse = .due →
      exec .bypassSettleExpiry s = .next (reached b.bypassSettle { b with settled := true, resetPulse := .on }))
    ∧ (b.settled = false → b.resetPulse = .none → b.setPulse = .due →
      exec .bypassSettleExpiry s = .next (reached b.bypassSettle { b with settled := true, setPulse := .on }))
    ∧ (b.resetPulse = .on → b.setPulse ≠ .due ∨ 30 ≤ b.nonOverlap →
      exec .coilPulseEnd s = .next (reached (b.bypassSettle + 30) { b with resetPulse := .done }))
    ∧ (b.settled = true → b.setPulse = .due →
      b.resetPulse = .done ∨ (b.resetPulse = .on ∧ b.nonOverlap ≤ 30) →
      exec .nonOverlapExpiry s = .next (reached (b.bypassSettle + b.nonOverlap) { b with setPulse := .on }))
    ∧ (b.setPulse = .on → b.resetPulse = .none ∨ b.resetPulse = .done →
      exec .coilPulseEnd s = .next (reached (setStart + 30) { b with setPulse := .done }))

/-- BATCH_COMPLETION (R88, R104, R112, R117, R120): the relay travel after the last pulse, each position of the batch
takes the condition its contact verifies and its gate turns off; in ascending order the targets are taken, the
ISOLATION and SWITCH notices produced, and the reports handed on; then the next batch forms. The event brings the
clock to its due moment, and the SWITCH and ISOLATION notices come before what the reports produce (log entries 2 and
24, the model's choices). -/
def Obligations.BatchCompletes : Prop :=
  ∀ (s : State) (b : Batch) (c : Contacts), s.drive.batch = some b → b.settled = true →
    (b.resetPulse = .none ∨ b.resetPulse = .done) → (b.setPulse = .none ∨ b.setPulse = .done) →
    let os := b.orders.insertionSort (fun x y => x.position ≤ y.position)
    let result := fun x : BatchOrder =>
      if c.getLsbD x.position.val then (if x.target = .closed then Condition.closed else .jammedClosed)
      else (if x.target = .closed then .jammedOpen else .opened)
    let span := b.bypassSettle + (if b.resetPulse ≠ .none ∧ b.setPulse ≠ .none then b.nonOverlap else 0)
      + 30 + b.relayTravel
    let verified := os.foldl (fun t x => setGate x.position false (setCondition x.position (result x) t))
      { s with now := max s.now (b.start + span), drive := { s.drive with batch := none } }
    let notified := os.foldl (fun t x =>
        if result x = .jammedClosed ∨ result x = .jammedOpen then
          emit .switch .set (some x.position) (.condition (result x)) t
        else if x.before = .closed ∧ result x = .opened then emit .isolation .set (some x.position) .absent t
        else if x.before = .opened ∧ result x = .closed then emit .isolation .clear (some x.position) .absent t
        else t)
      (os.foldl (fun t x => takeTarget x.position t) verified)
    (∀ x ∈ os, (∀ y ∈ os, y.position = x.position → y = x) →
      (verified.pos x.position).condition = result x ∧ (verified.pos x.position).gate = false)
    ∧ ∃ t, exec .batchStart (os.foldl (fun t x => handOn x.position (result x) t) notified) = .next t
      ∧ exec (.batchCompletion c) s = .next (conclude s t)

/-! ### Earth leakage and the walk -/

/-- The alarm as a routine sweep's leakage moves it (R131 to R134, Table 8-1); LEAKAGE_ALARM_ENTRY and
LEAKAGE_ALARM_CLEAR are the moves into ALARM and into QUIET that produce LEAKAGE SET and LEAKAGE CLEAR. An entry with
auto-walk on, no walk running and the loop ARMED starts a walk of origin AUTO (R135): as in R138, the walk record is
replaced, its candidates the SWITCHED, CLOSED positions with an empty hold set, ascending, WALK SET follows LEAKAGE SET
and the first candidate's step begins. The two commands are the Leakage unit's share of a completion: the model's choice
(log entry 7). -/
def Obligations.AlarmMoves : Prop :=
  ∀ (s : State) (l : BitVec 12),
    let trip := s.settings.leakageTrip
    let db := s.settings.leakageDebounce
    let a := s.leakage
    let low := l.toNat < trip ∧ 4 * l.toNat ≤ 3 * trip
    let high := trip ≤ l.toNat
    let n := if a.state = .rising ∨ a.state = .falling then a.count + 1 else 1
    let moved := fun x k => { s with leakage := ⟨x, k, l.toNat⟩ }
    let entered := emit .leakage .set none .absent (moved .alarm 0)
    let takes := fun t => takeLeakage l.toNat s = t
    let candidates := Pos.all.filter (fun p => decide
      (s.role p = .switched ∧ (s.pos p).condition = .closed ∧ (s.pos p).holds = HoldSet.empty))
    let walked := nextCandidate (emit .walk .set none .absent { entered with
      walk := ⟨some .auto, some s.uptime, .baseline, candidates, 0, [], none, none, none, none⟩ })
    let entry := if s.settings.autoWalk = true ∧ s.walk.state = .idle ∧ s.safety.state = .armed then walked else entered
    (high → (a.state = .quiet ∨ a.state = .rising) → n < db → takes (moved .rising n))
    ∧ (high → (a.state = .quiet ∨ a.state = .rising) → db ≤ n →
        takes entry ∧ exec (.leakageAlarmEntry l) s = .next entry)
    ∧ (high → a.state = .falling → takes (moved .alarm 0))
    ∧ (low → a.state = .rising → takes (moved .quiet 0))
    ∧ (low → (a.state = .alarm ∨ a.state = .falling) → n < db → takes (moved .falling n))
    ∧ (low → (a.state = .alarm ∨ a.state = .falling) → db ≤ n →
        takes (emit .leakage .clear none .absent (moved .quiet 0))
        ∧ exec (.leakageAlarmClear l) s = .next (emit .leakage .clear none .absent (moved .quiet 0)))
    ∧ ((high ∧ a.state = .alarm) ∨ (low ∧ a.state = .quiet) ∨ (¬ high ∧ ¬ low) → takes (moved a.state a.count))

/-- START_LOCATE (R137, R138): BUSY while a walk runs, SAFETY_ACTIVE outside ARMED; else the walk record is replaced,
its candidates the SWITCHED, CLOSED positions with an empty hold set, ascending, WALK SET is produced and the first
candidate's step begins; the answer carries their number. -/
def Obligations.WalkStarts : Prop :=
  ∀ (q : Port) (station : Byte) (s : State), q ≠ .linkP → Ready q station 0x30 [] s →
    let candidates := Pos.all.filter (fun p => decide
      (s.role p = .switched ∧ (s.pos p).condition = .closed ∧ (s.pos p).holds = HoldSet.empty))
    let origin : WalkOrigin := if q = .service then .service else .site
    (s.walk.state ≠ .idle → exec (.startLocate q station []) s = .next (answered q station 0x30 [0x09] s))
    ∧ (s.walk.state = .idle → s.safety.state ≠ .armed →
      exec (.startLocate q station []) s = .next (answered q station 0x30 [0x0A] s))
    ∧ (s.walk.state = .idle → s.safety.state = .armed →
      exec (.startLocate q station []) s = .next (answered q station 0x30 [0x00, byte candidates.length]
        (nextCandidate (emit .walk .set none .absent { s with
          walk := ⟨some origin, some s.uptime, .baseline, candidates, 0, [], none, none, none, none⟩ }))))

/-- The walk goes on (R25, R139, R141, R143): the next candidate's step begins in BASELINE and asks for a LOCATE
sweep, or the walk ends NOT_FOUND after the last; SETTLE_TIMER_EXPIRY enters MEASURING and asks for one. A LOCATE
sweep asked for starts at once where SWEEP_START can start it, unless one of this walk is waiting or running. A timer
event brings the clock to its due moment, and a LOCATE sweep of an ended walk is not shared with a new one (log
entries 2, 8 and 12, the model's choices). -/
def Obligations.WalkGoesOn : Prop :=
  ∀ s : State,
    let stands := s.seq.locateWaiting = true ∨ ∃ run, s.seq.running = some run ∧ run.forWalk = true
    let asks := fun (w : Walk) (now : Nat) (t : State) =>
      let u := { s with walk := w, now := now }
      (stands → t = u)
      ∧ (¬ stands → exec .sweepStart { u with seq := { s.seq with locateWaiting := true } } = .next t)
    (s.walk.index < s.walk.candidates.length →
      asks { s.walk with index := s.walk.index + 1, state := .baseline, baseline := none, settleDue := none } s.now
        (nextCandidate s))
    ∧ (s.walk.candidates.length ≤ s.walk.index → nextCandidate s = endWalk .notFound none s)
    ∧ ∀ due, s.walk.state = .settling → s.walk.settleDue = some due → ∃ t,
      exec .settleTimerExpiry s = .next t
        ∧ asks { s.walk with state := .measuring, settleDue := none } (max s.now due) t

/-- The walk's decisions on a LOCATE sweep's L (R78, R139, R142, R143). In BASELINE: at or below the clear value the
walk ends CLEARED; a candidate no longer CLOSED or held is SKIPPED_HELD; else LOCATE is inserted in OPENING. In
MEASURING: at the drop fraction or more the step is CONFIRMED, FAULT with reason GROUND takes LOCATE's place, the
record latches, FAULT SET is produced, the retained state is marked and the walk ends FOUND, where FAULT already stood
too; else the step is NO_DROP, LOCATE is removed and RECLOSING tests the candidate at once. -/
def Obligations.WalkDecides : Prop :=
  ∀ (s : State) (l : Nat) (p : Pos), s.walk.candidate = some p →
    let w := s.walk
    let x := s.pos p
    let logged := fun e => { s with walk := { w with entries := w.entries ++ [e] } }
    (w.state = .baseline →
      (4 * l ≤ 3 * s.settings.leakageTrip → walkSweep l s = endWalk .cleared none s)
      ∧ (3 * s.settings.leakageTrip < 4 * l →
        (x.condition ≠ .closed ∨ x.holds ≠ HoldSet.empty →
          walkSweep l s = nextCandidate (logged ⟨p, l, none, .skippedHeld⟩))
        ∧ (x.condition = .closed → x.holds = HoldSet.empty →
          walkSweep l s = changeHolds .locate true none [p]
            { s with walk := { w with state := .opening, baseline := some l } })))
    ∧ ∀ b, w.state = .measuring → w.baseline = some b →
      let d := s.settings.dropFraction
      (d ≤ 1000 → 1000 * l ≤ b * (1000 - d) → s.role p = .switched → x.holds.locate = true →
        walkSweep l s = endWalk .found (some p) (markRetained (emit .fault .set (some p) (.reason .ground)
          (takeTarget p ((logged ⟨p, b, some l, .confirmed⟩).modify p (fun y => { y with
            holds := { y.holds with locate := false, fault := true }
            reason := some .ground, lastChange := s.uptime
            qual := ⟨.latched, none, 0, 0, some .ground, none, none, y.qual.trials⟩ }))))))
      ∧ (d ≤ 1000 → b * (1000 - d) < 1000 * l →
        let u := changeHolds .locate false none [p] (logged ⟨p, b, some l, .noDrop⟩)
        let v := { u with walk := { u.walk with state := .reclosing } }
        walkSweep l s = if settledAgainst (v.pos p).condition (v.pos p).holds.target = true then nextCandidate v else v)

/-! ### The laws that every command keeps -/

/-- Holds exist on SWITCHED positions alone, FAULT exactly in DECLARED, WAITING and LATCHED, RECHECK holds nothing, and
the fault reasons follow: every command keeps these laws (R66, R84, R86). -/
def Obligations.IsolationLawsKept : Prop :=
  ∀ (c : Instr) (s t : State), IsolationLaws s → exec c s = .next t → IsolationLaws t

/-- Every qualifier record has the fields its state has, and no others (R59): every command keeps this. -/
def Obligations.RecordsFormedKept : Prop :=
  ∀ (c : Instr) (s t : State), RecordsFormed s → exec c s = .next t → RecordsFormed t

/-- Outside ARMED every SWITCHED position holds SAFETY, and in ARMED none does (R123): every command keeps this. -/
def Obligations.SafetyHeldKept : Prop :=
  ∀ (c : Instr) (s t : State), SafetyHeld s → exec c s = .next t → SafetyHeld t

/-- The Actuation Queue holds exactly the orders that targets and conditions call for, the batch in flight exactly the
MOVING positions, whose gates alone are on, each once and all of one switch group, and no order waits without a batch
(R103, R105, R107, R108, R110): every command keeps these laws. -/
def Obligations.DriveLawsKept : Prop :=
  ∀ (c : Instr) (s t : State), DriveLaws s → exec c s = .next t → DriveLaws t

/-- The ring keeps every pinned record, one FILLING record for the running sweep, a fill order of the slots in use,
and at most two pins and one pending requested sweep for a port (R23, R27, R28, R30): every command keeps these laws.
-/
def Obligations.RingLawsKept : Prop :=
  ∀ (c : Instr) (s t : State), RingLaws s → exec c s = .next t → RingLaws t

/-- A walk runs only while the safety state is ARMED, and has a candidate (R137, R146), and LOCATE is held by the walk's
candidate in OPENING, SETTLING and MEASURING alone (R146): every command keeps this, where the isolation laws and the
drive laws hold. -/
def Obligations.WalkLawsKept : Prop :=
  ∀ (c : Instr) (s t : State), IsolationLaws s → DriveLaws s → WalkLaws s → exec c s = .next t → WalkLaws t

/-- At most 32 notices stand in a queue (R154), every ratio lies in 256 to 1280 (R52), every numeric setting, stored or
standing, lies in its range (R167), and a write waits only while another is under way, at most one save among them
(R168 to R170): every command keeps each of these. -/
def Obligations.RangesAndScheduleKept : Prop :=
  ∀ (c : Instr) (s t : State), exec c s = .next t →
    (NoticesBounded s → NoticesBounded t) ∧ (RatiosInRange s → RatiosInRange t)
      ∧ (SettingsInRange s → SettingsInRange t) ∧ (StoreLaws s → StoreLaws t)

/-- A lockout ends by a Release Hold that names the position, taken at the Service Port with the Lockout Key ON, as a
row or as the last character of its frame, and by nothing else but a reset (R95). -/
def Obligations.LockoutEnds : Prop :=
  ∀ (c : Instr) (s t : State) (p : Pos), IsolationLaws s → (s.pos p).holds.lockout = true → exec c s = .next t →
    (t.pos p).holds.lockout = false →
    (∃ k l o, c = .reset k l o)
      ∨ (s.key = true ∧ ∃ (station : Byte) (body : List Byte),
        body.length = 3 ∧ (ofBytes body).testBit p.val = true
          ∧ (c = .releaseHold .service station body
            ∨ ∃ ch k got, c = .characterReceived .service ch k ∧ s.ports.service.receiver = .receiving got
              ∧ got ++ [ch] = goodFrame station (0x21 :: body)))

/-- The state after reset is what RESET leaves with nothing in the store, every auxiliary contact reading open, the
loop reading closed and the key OFF, which is the model's choice of those inputs (log entry 9); and it has all the
laws. -/
def Obligations.StateAfterReset : Prop :=
  (∀ s : State, s.pending = [] → s.store.settingsImage = ⟨none, none⟩ → s.store.retainedImage = ⟨none, none⟩ →
      exec (.reset 0 true false) s = .next State.reset)
    ∧ IsolationLaws State.reset ∧ RecordsFormed State.reset ∧ SafetyHeld State.reset ∧ DriveLaws State.reset
    ∧ RingLaws State.reset ∧ WalkLaws State.reset ∧ StoreLaws State.reset ∧ NoticesBounded State.reset
    ∧ RatiosInRange State.reset ∧ SettingsInRange State.reset
end

