-- ==== Sys2Proof/Laws/State.lean ====
section
/-! SUPPORT. What each single update of the state leaves alone: one equation for each field it does not write. -/

namespace Sys2Proof.Machine

variable (s : State)

@[simp] theorem advanceTo_pending (t : Nat) : (advanceTo t s).pending = s.pending := rfl
@[simp] theorem advanceTo_settings (t : Nat) : (advanceTo t s).settings = s.settings := rfl
@[simp] theorem advanceTo_positions (t : Nat) : (advanceTo t s).positions = s.positions := rfl
@[simp] theorem advanceTo_seq (t : Nat) : (advanceTo t s).seq = s.seq := rfl
@[simp] theorem advanceTo_drive (t : Nat) : (advanceTo t s).drive = s.drive := rfl
@[simp] theorem advanceTo_safety (t : Nat) : (advanceTo t s).safety = s.safety := rfl
@[simp] theorem advanceTo_leakage (t : Nat) : (advanceTo t s).leakage = s.leakage := rfl
@[simp] theorem advanceTo_walk (t : Nat) : (advanceTo t s).walk = s.walk := rfl
@[simp] theorem advanceTo_ports (t : Nat) : (advanceTo t s).ports = s.ports := rfl
@[simp] theorem advanceTo_store (t : Nat) : (advanceTo t s).store = s.store := rfl
@[simp] theorem advanceTo_nextHour (t : Nat) : (advanceTo t s).nextHour = s.nextHour := rfl
@[simp] theorem advanceTo_key (t : Nat) : (advanceTo t s).key = s.key := rfl

@[simp] theorem modify_pending (p : Pos) (f : PosState → PosState) : (s.modify p f).pending = s.pending := rfl
@[simp] theorem modify_now (p : Pos) (f : PosState → PosState) : (s.modify p f).now = s.now := rfl
@[simp] theorem modify_settings (p : Pos) (f : PosState → PosState) : (s.modify p f).settings = s.settings := rfl
@[simp] theorem modify_seq (p : Pos) (f : PosState → PosState) : (s.modify p f).seq = s.seq := rfl
@[simp] theorem modify_drive (p : Pos) (f : PosState → PosState) : (s.modify p f).drive = s.drive := rfl
@[simp] theorem modify_safety (p : Pos) (f : PosState → PosState) : (s.modify p f).safety = s.safety := rfl
@[simp] theorem modify_leakage (p : Pos) (f : PosState → PosState) : (s.modify p f).leakage = s.leakage := rfl
@[simp] theorem modify_walk (p : Pos) (f : PosState → PosState) : (s.modify p f).walk = s.walk := rfl
@[simp] theorem modify_ports (p : Pos) (f : PosState → PosState) : (s.modify p f).ports = s.ports := rfl
@[simp] theorem modify_store (p : Pos) (f : PosState → PosState) : (s.modify p f).store = s.store := rfl
@[simp] theorem modify_nextHour (p : Pos) (f : PosState → PosState) : (s.modify p f).nextHour = s.nextHour := rfl
@[simp] theorem modify_key (p : Pos) (f : PosState → PosState) : (s.modify p f).key = s.key := rfl

@[simp] theorem setQual_pending (p : Pos) (q : QualRecord) : (setQual p q s).pending = s.pending := rfl
@[simp] theorem setQual_now (p : Pos) (q : QualRecord) : (setQual p q s).now = s.now := rfl
@[simp] theorem setQual_settings (p : Pos) (q : QualRecord) : (setQual p q s).settings = s.settings := rfl
@[simp] theorem setQual_seq (p : Pos) (q : QualRecord) : (setQual p q s).seq = s.seq := rfl
@[simp] theorem setQual_drive (p : Pos) (q : QualRecord) : (setQual p q s).drive = s.drive := rfl
@[simp] theorem setQual_safety (p : Pos) (q : QualRecord) : (setQual p q s).safety = s.safety := rfl
@[simp] theorem setQual_leakage (p : Pos) (q : QualRecord) : (setQual p q s).leakage = s.leakage := rfl
@[simp] theorem setQual_walk (p : Pos) (q : QualRecord) : (setQual p q s).walk = s.walk := rfl
@[simp] theorem setQual_ports (p : Pos) (q : QualRecord) : (setQual p q s).ports = s.ports := rfl
@[simp] theorem setQual_store (p : Pos) (q : QualRecord) : (setQual p q s).store = s.store := rfl
@[simp] theorem setQual_nextHour (p : Pos) (q : QualRecord) : (setQual p q s).nextHour = s.nextHour := rfl
@[simp] theorem setQual_key (p : Pos) (q : QualRecord) : (setQual p q s).key = s.key := rfl

@[simp] theorem modifyQual_pending (p : Pos) (f : QualRecord → QualRecord) : (modifyQual p f s).pending = s.pending := rfl
@[simp] theorem modifyQual_now (p : Pos) (f : QualRecord → QualRecord) : (modifyQual p f s).now = s.now := rfl
@[simp] theorem modifyQual_settings (p : Pos) (f : QualRecord → QualRecord) : (modifyQual p f s).settings = s.settings := rfl
@[simp] theorem modifyQual_seq (p : Pos) (f : QualRecord → QualRecord) : (modifyQual p f s).seq = s.seq := rfl
@[simp] theorem modifyQual_drive (p : Pos) (f : QualRecord → QualRecord) : (modifyQual p f s).drive = s.drive := rfl
@[simp] theorem modifyQual_safety (p : Pos) (f : QualRecord → QualRecord) : (modifyQual p f s).safety = s.safety := rfl
@[simp] theorem modifyQual_leakage (p : Pos) (f : QualRecord → QualRecord) : (modifyQual p f s).leakage = s.leakage := rfl
@[simp] theorem modifyQual_walk (p : Pos) (f : QualRecord → QualRecord) : (modifyQual p f s).walk = s.walk := rfl
@[simp] theorem modifyQual_ports (p : Pos) (f : QualRecord → QualRecord) : (modifyQual p f s).ports = s.ports := rfl
@[simp] theorem modifyQual_store (p : Pos) (f : QualRecord → QualRecord) : (modifyQual p f s).store = s.store := rfl
@[simp] theorem modifyQual_nextHour (p : Pos) (f : QualRecord → QualRecord) : (modifyQual p f s).nextHour = s.nextHour := rfl
@[simp] theorem modifyQual_key (p : Pos) (f : QualRecord → QualRecord) : (modifyQual p f s).key = s.key := rfl

@[simp] theorem setResidual_pending (p : Pos) (n : Nat) : (setResidual p n s).pending = s.pending := rfl
@[simp] theorem setResidual_now (p : Pos) (n : Nat) : (setResidual p n s).now = s.now := rfl
@[simp] theorem setResidual_settings (p : Pos) (n : Nat) : (setResidual p n s).settings = s.settings := rfl
@[simp] theorem setResidual_seq (p : Pos) (n : Nat) : (setResidual p n s).seq = s.seq := rfl
@[simp] theorem setResidual_drive (p : Pos) (n : Nat) : (setResidual p n s).drive = s.drive := rfl
@[simp] theorem setResidual_safety (p : Pos) (n : Nat) : (setResidual p n s).safety = s.safety := rfl
@[simp] theorem setResidual_leakage (p : Pos) (n : Nat) : (setResidual p n s).leakage = s.leakage := rfl
@[simp] theorem setResidual_walk (p : Pos) (n : Nat) : (setResidual p n s).walk = s.walk := rfl
@[simp] theorem setResidual_ports (p : Pos) (n : Nat) : (setResidual p n s).ports = s.ports := rfl
@[simp] theorem setResidual_store (p : Pos) (n : Nat) : (setResidual p n s).store = s.store := rfl
@[simp] theorem setResidual_nextHour (p : Pos) (n : Nat) : (setResidual p n s).nextHour = s.nextHour := rfl
@[simp] theorem setResidual_key (p : Pos) (n : Nat) : (setResidual p n s).key = s.key := rfl

@[simp] theorem setRatio_pending (p : Pos) (r : Nat) : (setRatio p r s).pending = s.pending := rfl
@[simp] theorem setRatio_now (p : Pos) (r : Nat) : (setRatio p r s).now = s.now := rfl
@[simp] theorem setRatio_settings (p : Pos) (r : Nat) : (setRatio p r s).settings = s.settings := rfl
@[simp] theorem setRatio_seq (p : Pos) (r : Nat) : (setRatio p r s).seq = s.seq := rfl
@[simp] theorem setRatio_drive (p : Pos) (r : Nat) : (setRatio p r s).drive = s.drive := rfl
@[simp] theorem setRatio_safety (p : Pos) (r : Nat) : (setRatio p r s).safety = s.safety := rfl
@[simp] theorem setRatio_leakage (p : Pos) (r : Nat) : (setRatio p r s).leakage = s.leakage := rfl
@[simp] theorem setRatio_walk (p : Pos) (r : Nat) : (setRatio p r s).walk = s.walk := rfl
@[simp] theorem setRatio_ports (p : Pos) (r : Nat) : (setRatio p r s).ports = s.ports := rfl
@[simp] theorem setRatio_store (p : Pos) (r : Nat) : (setRatio p r s).store = s.store := rfl
@[simp] theorem setRatio_nextHour (p : Pos) (r : Nat) : (setRatio p r s).nextHour = s.nextHour := rfl
@[simp] theorem setRatio_key (p : Pos) (r : Nat) : (setRatio p r s).key = s.key := rfl

@[simp] theorem setGate_pending (p : Pos) (b : Bool) : (setGate p b s).pending = s.pending := rfl
@[simp] theorem setGate_now (p : Pos) (b : Bool) : (setGate p b s).now = s.now := rfl
@[simp] theorem setGate_settings (p : Pos) (b : Bool) : (setGate p b s).settings = s.settings := rfl
@[simp] theorem setGate_seq (p : Pos) (b : Bool) : (setGate p b s).seq = s.seq := rfl
@[simp] theorem setGate_drive (p : Pos) (b : Bool) : (setGate p b s).drive = s.drive := rfl
@[simp] theorem setGate_safety (p : Pos) (b : Bool) : (setGate p b s).safety = s.safety := rfl
@[simp] theorem setGate_leakage (p : Pos) (b : Bool) : (setGate p b s).leakage = s.leakage := rfl
@[simp] theorem setGate_walk (p : Pos) (b : Bool) : (setGate p b s).walk = s.walk := rfl
@[simp] theorem setGate_ports (p : Pos) (b : Bool) : (setGate p b s).ports = s.ports := rfl
@[simp] theorem setGate_store (p : Pos) (b : Bool) : (setGate p b s).store = s.store := rfl
@[simp] theorem setGate_nextHour (p : Pos) (b : Bool) : (setGate p b s).nextHour = s.nextHour := rfl
@[simp] theorem setGate_key (p : Pos) (b : Bool) : (setGate p b s).key = s.key := rfl

@[simp] theorem putHolder_pending (h : Holder) (b : Bool) (r : Option Reason) (p : Pos) : (putHolder h b r p s).pending = s.pending := rfl
@[simp] theorem putHolder_now (h : Holder) (b : Bool) (r : Option Reason) (p : Pos) : (putHolder h b r p s).now = s.now := rfl
@[simp] theorem putHolder_settings (h : Holder) (b : Bool) (r : Option Reason) (p : Pos) : (putHolder h b r p s).settings = s.settings := rfl
@[simp] theorem putHolder_seq (h : Holder) (b : Bool) (r : Option Reason) (p : Pos) : (putHolder h b r p s).seq = s.seq := rfl
@[simp] theorem putHolder_drive (h : Holder) (b : Bool) (r : Option Reason) (p : Pos) : (putHolder h b r p s).drive = s.drive := rfl
@[simp] theorem putHolder_safety (h : Holder) (b : Bool) (r : Option Reason) (p : Pos) : (putHolder h b r p s).safety = s.safety := rfl
@[simp] theorem putHolder_leakage (h : Holder) (b : Bool) (r : Option Reason) (p : Pos) : (putHolder h b r p s).leakage = s.leakage := rfl
@[simp] theorem putHolder_walk (h : Holder) (b : Bool) (r : Option Reason) (p : Pos) : (putHolder h b r p s).walk = s.walk := rfl
@[simp] theorem putHolder_ports (h : Holder) (b : Bool) (r : Option Reason) (p : Pos) : (putHolder h b r p s).ports = s.ports := rfl
@[simp] theorem putHolder_store (h : Holder) (b : Bool) (r : Option Reason) (p : Pos) : (putHolder h b r p s).store = s.store := rfl
@[simp] theorem putHolder_nextHour (h : Holder) (b : Bool) (r : Option Reason) (p : Pos) : (putHolder h b r p s).nextHour = s.nextHour := rfl
@[simp] theorem putHolder_key (h : Holder) (b : Bool) (r : Option Reason) (p : Pos) : (putHolder h b r p s).key = s.key := rfl

@[simp] theorem offerAll_pending (n : Notice) : (offerAll n s).pending = s.pending := rfl
@[simp] theorem offerAll_now (n : Notice) : (offerAll n s).now = s.now := rfl
@[simp] theorem offerAll_settings (n : Notice) : (offerAll n s).settings = s.settings := rfl
@[simp] theorem offerAll_positions (n : Notice) : (offerAll n s).positions = s.positions := rfl
@[simp] theorem offerAll_seq (n : Notice) : (offerAll n s).seq = s.seq := rfl
@[simp] theorem offerAll_drive (n : Notice) : (offerAll n s).drive = s.drive := rfl
@[simp] theorem offerAll_safety (n : Notice) : (offerAll n s).safety = s.safety := rfl
@[simp] theorem offerAll_leakage (n : Notice) : (offerAll n s).leakage = s.leakage := rfl
@[simp] theorem offerAll_walk (n : Notice) : (offerAll n s).walk = s.walk := rfl
@[simp] theorem offerAll_store (n : Notice) : (offerAll n s).store = s.store := rfl
@[simp] theorem offerAll_nextHour (n : Notice) : (offerAll n s).nextHour = s.nextHour := rfl
@[simp] theorem offerAll_key (n : Notice) : (offerAll n s).key = s.key := rfl

@[simp] theorem emit_pending (k : NoticeKind) (e : Edge) (p : Option Pos) (d : Detail) : (emit k e p d s).pending = s.pending := rfl
@[simp] theorem emit_now (k : NoticeKind) (e : Edge) (p : Option Pos) (d : Detail) : (emit k e p d s).now = s.now := rfl
@[simp] theorem emit_settings (k : NoticeKind) (e : Edge) (p : Option Pos) (d : Detail) : (emit k e p d s).settings = s.settings := rfl
@[simp] theorem emit_positions (k : NoticeKind) (e : Edge) (p : Option Pos) (d : Detail) : (emit k e p d s).positions = s.positions := rfl
@[simp] theorem emit_seq (k : NoticeKind) (e : Edge) (p : Option Pos) (d : Detail) : (emit k e p d s).seq = s.seq := rfl
@[simp] theorem emit_drive (k : NoticeKind) (e : Edge) (p : Option Pos) (d : Detail) : (emit k e p d s).drive = s.drive := rfl
@[simp] theorem emit_safety (k : NoticeKind) (e : Edge) (p : Option Pos) (d : Detail) : (emit k e p d s).safety = s.safety := rfl
@[simp] theorem emit_leakage (k : NoticeKind) (e : Edge) (p : Option Pos) (d : Detail) : (emit k e p d s).leakage = s.leakage := rfl
@[simp] theorem emit_walk (k : NoticeKind) (e : Edge) (p : Option Pos) (d : Detail) : (emit k e p d s).walk = s.walk := rfl
@[simp] theorem emit_store (k : NoticeKind) (e : Edge) (p : Option Pos) (d : Detail) : (emit k e p d s).store = s.store := rfl
@[simp] theorem emit_nextHour (k : NoticeKind) (e : Edge) (p : Option Pos) (d : Detail) : (emit k e p d s).nextHour = s.nextHour := rfl
@[simp] theorem emit_key (k : NoticeKind) (e : Edge) (p : Option Pos) (d : Detail) : (emit k e p d s).key = s.key := rfl

@[simp] theorem modifyPort_pending (q : Port) (f : PortState → PortState) : (modifyPort q f s).pending = s.pending := rfl
@[simp] theorem modifyPort_now (q : Port) (f : PortState → PortState) : (modifyPort q f s).now = s.now := rfl
@[simp] theorem modifyPort_settings (q : Port) (f : PortState → PortState) : (modifyPort q f s).settings = s.settings := rfl
@[simp] theorem modifyPort_positions (q : Port) (f : PortState → PortState) : (modifyPort q f s).positions = s.positions := rfl
@[simp] theorem modifyPort_seq (q : Port) (f : PortState → PortState) : (modifyPort q f s).seq = s.seq := rfl
@[simp] theorem modifyPort_drive (q : Port) (f : PortState → PortState) : (modifyPort q f s).drive = s.drive := rfl
@[simp] theorem modifyPort_safety (q : Port) (f : PortState → PortState) : (modifyPort q f s).safety = s.safety := rfl
@[simp] theorem modifyPort_leakage (q : Port) (f : PortState → PortState) : (modifyPort q f s).leakage = s.leakage := rfl
@[simp] theorem modifyPort_walk (q : Port) (f : PortState → PortState) : (modifyPort q f s).walk = s.walk := rfl
@[simp] theorem modifyPort_store (q : Port) (f : PortState → PortState) : (modifyPort q f s).store = s.store := rfl
@[simp] theorem modifyPort_nextHour (q : Port) (f : PortState → PortState) : (modifyPort q f s).nextHour = s.nextHour := rfl
@[simp] theorem modifyPort_key (q : Port) (f : PortState → PortState) : (modifyPort q f s).key = s.key := rfl

@[simp] theorem toAnswering_pending (q : Port) : (toAnswering q s).pending = s.pending := rfl
@[simp] theorem toAnswering_now (q : Port) : (toAnswering q s).now = s.now := rfl
@[simp] theorem toAnswering_settings (q : Port) : (toAnswering q s).settings = s.settings := rfl
@[simp] theorem toAnswering_positions (q : Port) : (toAnswering q s).positions = s.positions := rfl
@[simp] theorem toAnswering_seq (q : Port) : (toAnswering q s).seq = s.seq := rfl
@[simp] theorem toAnswering_drive (q : Port) : (toAnswering q s).drive = s.drive := rfl
@[simp] theorem toAnswering_safety (q : Port) : (toAnswering q s).safety = s.safety := rfl
@[simp] theorem toAnswering_leakage (q : Port) : (toAnswering q s).leakage = s.leakage := rfl
@[simp] theorem toAnswering_walk (q : Port) : (toAnswering q s).walk = s.walk := rfl
@[simp] theorem toAnswering_store (q : Port) : (toAnswering q s).store = s.store := rfl
@[simp] theorem toAnswering_nextHour (q : Port) : (toAnswering q s).nextHour = s.nextHour := rfl
@[simp] theorem toAnswering_key (q : Port) : (toAnswering q s).key = s.key := rfl

@[simp] theorem toIdle_pending (q : Port) : (toIdle q s).pending = s.pending := rfl
@[simp] theorem toIdle_now (q : Port) : (toIdle q s).now = s.now := rfl
@[simp] theorem toIdle_settings (q : Port) : (toIdle q s).settings = s.settings := rfl
@[simp] theorem toIdle_positions (q : Port) : (toIdle q s).positions = s.positions := rfl
@[simp] theorem toIdle_seq (q : Port) : (toIdle q s).seq = s.seq := rfl
@[simp] theorem toIdle_drive (q : Port) : (toIdle q s).drive = s.drive := rfl
@[simp] theorem toIdle_safety (q : Port) : (toIdle q s).safety = s.safety := rfl
@[simp] theorem toIdle_leakage (q : Port) : (toIdle q s).leakage = s.leakage := rfl
@[simp] theorem toIdle_walk (q : Port) : (toIdle q s).walk = s.walk := rfl
@[simp] theorem toIdle_store (q : Port) : (toIdle q s).store = s.store := rfl
@[simp] theorem toIdle_nextHour (q : Port) : (toIdle q s).nextHour = s.nextHour := rfl
@[simp] theorem toIdle_key (q : Port) : (toIdle q s).key = s.key := rfl

@[simp] theorem receiving_pending (q : Port) (got : List Byte) : (receiving q got s).pending = s.pending := rfl
@[simp] theorem receiving_now (q : Port) (got : List Byte) : (receiving q got s).now = s.now := rfl
@[simp] theorem receiving_settings (q : Port) (got : List Byte) : (receiving q got s).settings = s.settings := rfl
@[simp] theorem receiving_positions (q : Port) (got : List Byte) : (receiving q got s).positions = s.positions := rfl
@[simp] theorem receiving_seq (q : Port) (got : List Byte) : (receiving q got s).seq = s.seq := rfl
@[simp] theorem receiving_drive (q : Port) (got : List Byte) : (receiving q got s).drive = s.drive := rfl
@[simp] theorem receiving_safety (q : Port) (got : List Byte) : (receiving q got s).safety = s.safety := rfl
@[simp] theorem receiving_leakage (q : Port) (got : List Byte) : (receiving q got s).leakage = s.leakage := rfl
@[simp] theorem receiving_walk (q : Port) (got : List Byte) : (receiving q got s).walk = s.walk := rfl
@[simp] theorem receiving_store (q : Port) (got : List Byte) : (receiving q got s).store = s.store := rfl
@[simp] theorem receiving_nextHour (q : Port) (got : List Byte) : (receiving q got s).nextHour = s.nextHour := rfl
@[simp] theorem receiving_key (q : Port) (got : List Byte) : (receiving q got s).key = s.key := rfl

@[simp] theorem removeOrder_pending (p : Pos) : (removeOrder p s).pending = s.pending := rfl
@[simp] theorem removeOrder_now (p : Pos) : (removeOrder p s).now = s.now := rfl
@[simp] theorem removeOrder_settings (p : Pos) : (removeOrder p s).settings = s.settings := rfl
@[simp] theorem removeOrder_positions (p : Pos) : (removeOrder p s).positions = s.positions := rfl
@[simp] theorem removeOrder_seq (p : Pos) : (removeOrder p s).seq = s.seq := rfl
@[simp] theorem removeOrder_safety (p : Pos) : (removeOrder p s).safety = s.safety := rfl
@[simp] theorem removeOrder_leakage (p : Pos) : (removeOrder p s).leakage = s.leakage := rfl
@[simp] theorem removeOrder_walk (p : Pos) : (removeOrder p s).walk = s.walk := rfl
@[simp] theorem removeOrder_ports (p : Pos) : (removeOrder p s).ports = s.ports := rfl
@[simp] theorem removeOrder_store (p : Pos) : (removeOrder p s).store = s.store := rfl
@[simp] theorem removeOrder_nextHour (p : Pos) : (removeOrder p s).nextHour = s.nextHour := rfl
@[simp] theorem removeOrder_key (p : Pos) : (removeOrder p s).key = s.key := rfl

@[simp] theorem setBatch_pending (b : Batch) : (setBatch b s).pending = s.pending := rfl
@[simp] theorem setBatch_now (b : Batch) : (setBatch b s).now = s.now := rfl
@[simp] theorem setBatch_settings (b : Batch) : (setBatch b s).settings = s.settings := rfl
@[simp] theorem setBatch_positions (b : Batch) : (setBatch b s).positions = s.positions := rfl
@[simp] theorem setBatch_seq (b : Batch) : (setBatch b s).seq = s.seq := rfl
@[simp] theorem setBatch_safety (b : Batch) : (setBatch b s).safety = s.safety := rfl
@[simp] theorem setBatch_leakage (b : Batch) : (setBatch b s).leakage = s.leakage := rfl
@[simp] theorem setBatch_walk (b : Batch) : (setBatch b s).walk = s.walk := rfl
@[simp] theorem setBatch_ports (b : Batch) : (setBatch b s).ports = s.ports := rfl
@[simp] theorem setBatch_store (b : Batch) : (setBatch b s).store = s.store := rfl
@[simp] theorem setBatch_nextHour (b : Batch) : (setBatch b s).nextHour = s.nextHour := rfl
@[simp] theorem setBatch_key (b : Batch) : (setBatch b s).key = s.key := rfl

@[simp] theorem appendEntry_pending (e : StepEntry) : (appendEntry e s).pending = s.pending := rfl
@[simp] theorem appendEntry_now (e : StepEntry) : (appendEntry e s).now = s.now := rfl
@[simp] theorem appendEntry_settings (e : StepEntry) : (appendEntry e s).settings = s.settings := rfl
@[simp] theorem appendEntry_positions (e : StepEntry) : (appendEntry e s).positions = s.positions := rfl
@[simp] theorem appendEntry_seq (e : StepEntry) : (appendEntry e s).seq = s.seq := rfl
@[simp] theorem appendEntry_drive (e : StepEntry) : (appendEntry e s).drive = s.drive := rfl
@[simp] theorem appendEntry_safety (e : StepEntry) : (appendEntry e s).safety = s.safety := rfl
@[simp] theorem appendEntry_leakage (e : StepEntry) : (appendEntry e s).leakage = s.leakage := rfl
@[simp] theorem appendEntry_ports (e : StepEntry) : (appendEntry e s).ports = s.ports := rfl
@[simp] theorem appendEntry_store (e : StepEntry) : (appendEntry e s).store = s.store := rfl
@[simp] theorem appendEntry_nextHour (e : StepEntry) : (appendEntry e s).nextHour = s.nextHour := rfl
@[simp] theorem appendEntry_key (e : StepEntry) : (appendEntry e s).key = s.key := rfl

@[simp] theorem setSafety_pending (a : SafetyState) (due : Option Nat) (b : Bool) : (setSafety a due b s).pending = s.pending := rfl
@[simp] theorem setSafety_now (a : SafetyState) (due : Option Nat) (b : Bool) : (setSafety a due b s).now = s.now := rfl
@[simp] theorem setSafety_settings (a : SafetyState) (due : Option Nat) (b : Bool) : (setSafety a due b s).settings = s.settings := rfl
@[simp] theorem setSafety_positions (a : SafetyState) (due : Option Nat) (b : Bool) : (setSafety a due b s).positions = s.positions := rfl
@[simp] theorem setSafety_seq (a : SafetyState) (due : Option Nat) (b : Bool) : (setSafety a due b s).seq = s.seq := rfl
@[simp] theorem setSafety_drive (a : SafetyState) (due : Option Nat) (b : Bool) : (setSafety a due b s).drive = s.drive := rfl
@[simp] theorem setSafety_leakage (a : SafetyState) (due : Option Nat) (b : Bool) : (setSafety a due b s).leakage = s.leakage := rfl
@[simp] theorem setSafety_walk (a : SafetyState) (due : Option Nat) (b : Bool) : (setSafety a due b s).walk = s.walk := rfl
@[simp] theorem setSafety_ports (a : SafetyState) (due : Option Nat) (b : Bool) : (setSafety a due b s).ports = s.ports := rfl
@[simp] theorem setSafety_store (a : SafetyState) (due : Option Nat) (b : Bool) : (setSafety a due b s).store = s.store := rfl
@[simp] theorem setSafety_nextHour (a : SafetyState) (due : Option Nat) (b : Bool) : (setSafety a due b s).nextHour = s.nextHour := rfl
@[simp] theorem setSafety_key (a : SafetyState) (due : Option Nat) (b : Bool) : (setSafety a due b s).key = s.key := rfl

@[simp] theorem setAlarm_pending (a : AlarmState) (n : Nat) : (setAlarm a n s).pending = s.pending := rfl
@[simp] theorem setAlarm_now (a : AlarmState) (n : Nat) : (setAlarm a n s).now = s.now := rfl
@[simp] theorem setAlarm_settings (a : AlarmState) (n : Nat) : (setAlarm a n s).settings = s.settings := rfl
@[simp] theorem setAlarm_positions (a : AlarmState) (n : Nat) : (setAlarm a n s).positions = s.positions := rfl
@[simp] theorem setAlarm_seq (a : AlarmState) (n : Nat) : (setAlarm a n s).seq = s.seq := rfl
@[simp] theorem setAlarm_drive (a : AlarmState) (n : Nat) : (setAlarm a n s).drive = s.drive := rfl
@[simp] theorem setAlarm_safety (a : AlarmState) (n : Nat) : (setAlarm a n s).safety = s.safety := rfl
@[simp] theorem setAlarm_walk (a : AlarmState) (n : Nat) : (setAlarm a n s).walk = s.walk := rfl
@[simp] theorem setAlarm_ports (a : AlarmState) (n : Nat) : (setAlarm a n s).ports = s.ports := rfl
@[simp] theorem setAlarm_store (a : AlarmState) (n : Nat) : (setAlarm a n s).store = s.store := rfl
@[simp] theorem setAlarm_nextHour (a : AlarmState) (n : Nat) : (setAlarm a n s).nextHour = s.nextHour := rfl
@[simp] theorem setAlarm_key (a : AlarmState) (n : Nat) : (setAlarm a n s).key = s.key := rfl

@[simp] theorem setRole_pending (p : Pos) (r : Role) : (setRole p r s).pending = s.pending := rfl
@[simp] theorem setRole_now (p : Pos) (r : Role) : (setRole p r s).now = s.now := rfl
@[simp] theorem setRole_positions (p : Pos) (r : Role) : (setRole p r s).positions = s.positions := rfl
@[simp] theorem setRole_seq (p : Pos) (r : Role) : (setRole p r s).seq = s.seq := rfl
@[simp] theorem setRole_drive (p : Pos) (r : Role) : (setRole p r s).drive = s.drive := rfl
@[simp] theorem setRole_safety (p : Pos) (r : Role) : (setRole p r s).safety = s.safety := rfl
@[simp] theorem setRole_leakage (p : Pos) (r : Role) : (setRole p r s).leakage = s.leakage := rfl
@[simp] theorem setRole_walk (p : Pos) (r : Role) : (setRole p r s).walk = s.walk := rfl
@[simp] theorem setRole_ports (p : Pos) (r : Role) : (setRole p r s).ports = s.ports := rfl
@[simp] theorem setRole_store (p : Pos) (r : Role) : (setRole p r s).store = s.store := rfl
@[simp] theorem setRole_nextHour (p : Pos) (r : Role) : (setRole p r s).nextHour = s.nextHour := rfl
@[simp] theorem setRole_key (p : Pos) (r : Role) : (setRole p r s).key = s.key := rfl

@[simp] theorem putSetting_pending (x : Setting) (v : Nat) : (putSetting x v s).pending = s.pending := rfl
@[simp] theorem putSetting_now (x : Setting) (v : Nat) : (putSetting x v s).now = s.now := rfl
@[simp] theorem putSetting_positions (x : Setting) (v : Nat) : (putSetting x v s).positions = s.positions := rfl
@[simp] theorem putSetting_seq (x : Setting) (v : Nat) : (putSetting x v s).seq = s.seq := rfl
@[simp] theorem putSetting_drive (x : Setting) (v : Nat) : (putSetting x v s).drive = s.drive := rfl
@[simp] theorem putSetting_safety (x : Setting) (v : Nat) : (putSetting x v s).safety = s.safety := rfl
@[simp] theorem putSetting_leakage (x : Setting) (v : Nat) : (putSetting x v s).leakage = s.leakage := rfl
@[simp] theorem putSetting_walk (x : Setting) (v : Nat) : (putSetting x v s).walk = s.walk := rfl
@[simp] theorem putSetting_ports (x : Setting) (v : Nat) : (putSetting x v s).ports = s.ports := rfl
@[simp] theorem putSetting_store (x : Setting) (v : Nat) : (putSetting x v s).store = s.store := rfl
@[simp] theorem putSetting_nextHour (x : Setting) (v : Nat) : (putSetting x v s).nextHour = s.nextHour := rfl
@[simp] theorem putSetting_key (x : Setting) (v : Nat) : (putSetting x v s).key = s.key := rfl

@[simp] theorem beginSweep_pending (o : Origin) (b : Bool) (i : Fin 8) : (beginSweep o b i s).pending = s.pending := rfl
@[simp] theorem beginSweep_now (o : Origin) (b : Bool) (i : Fin 8) : (beginSweep o b i s).now = s.now := rfl
@[simp] theorem beginSweep_settings (o : Origin) (b : Bool) (i : Fin 8) : (beginSweep o b i s).settings = s.settings := rfl
@[simp] theorem beginSweep_positions (o : Origin) (b : Bool) (i : Fin 8) : (beginSweep o b i s).positions = s.positions := rfl
@[simp] theorem beginSweep_drive (o : Origin) (b : Bool) (i : Fin 8) : (beginSweep o b i s).drive = s.drive := rfl
@[simp] theorem beginSweep_safety (o : Origin) (b : Bool) (i : Fin 8) : (beginSweep o b i s).safety = s.safety := rfl
@[simp] theorem beginSweep_leakage (o : Origin) (b : Bool) (i : Fin 8) : (beginSweep o b i s).leakage = s.leakage := rfl
@[simp] theorem beginSweep_walk (o : Origin) (b : Bool) (i : Fin 8) : (beginSweep o b i s).walk = s.walk := rfl
@[simp] theorem beginSweep_ports (o : Origin) (b : Bool) (i : Fin 8) : (beginSweep o b i s).ports = s.ports := rfl
@[simp] theorem beginSweep_store (o : Origin) (b : Bool) (i : Fin 8) : (beginSweep o b i s).store = s.store := rfl
@[simp] theorem beginSweep_nextHour (o : Origin) (b : Bool) (i : Fin 8) : (beginSweep o b i s).nextHour = s.nextHour := rfl
@[simp] theorem beginSweep_key (o : Origin) (b : Bool) (i : Fin 8) : (beginSweep o b i s).key = s.key := rfl

@[simp] theorem rearmRoutine_pending : (rearmRoutine s).pending = s.pending := rfl
@[simp] theorem rearmRoutine_now : (rearmRoutine s).now = s.now := rfl
@[simp] theorem rearmRoutine_settings : (rearmRoutine s).settings = s.settings := rfl
@[simp] theorem rearmRoutine_positions : (rearmRoutine s).positions = s.positions := rfl
@[simp] theorem rearmRoutine_drive : (rearmRoutine s).drive = s.drive := rfl
@[simp] theorem rearmRoutine_safety : (rearmRoutine s).safety = s.safety := rfl
@[simp] theorem rearmRoutine_leakage : (rearmRoutine s).leakage = s.leakage := rfl
@[simp] theorem rearmRoutine_walk : (rearmRoutine s).walk = s.walk := rfl
@[simp] theorem rearmRoutine_ports : (rearmRoutine s).ports = s.ports := rfl
@[simp] theorem rearmRoutine_store : (rearmRoutine s).store = s.store := rfl
@[simp] theorem rearmRoutine_nextHour : (rearmRoutine s).nextHour = s.nextHour := rfl
@[simp] theorem rearmRoutine_key : (rearmRoutine s).key = s.key := rfl

@[simp] theorem queueSave_pending : (queueSave s).pending = s.pending := rfl
@[simp] theorem queueSave_now : (queueSave s).now = s.now := rfl
@[simp] theorem queueSave_settings : (queueSave s).settings = s.settings := rfl
@[simp] theorem queueSave_positions : (queueSave s).positions = s.positions := rfl
@[simp] theorem queueSave_seq : (queueSave s).seq = s.seq := rfl
@[simp] theorem queueSave_drive : (queueSave s).drive = s.drive := rfl
@[simp] theorem queueSave_safety : (queueSave s).safety = s.safety := rfl
@[simp] theorem queueSave_leakage : (queueSave s).leakage = s.leakage := rfl
@[simp] theorem queueSave_walk : (queueSave s).walk = s.walk := rfl
@[simp] theorem queueSave_ports : (queueSave s).ports = s.ports := rfl
@[simp] theorem queueSave_nextHour : (queueSave s).nextHour = s.nextHour := rfl
@[simp] theorem queueSave_key : (queueSave s).key = s.key := rfl

@[simp] theorem endSave_pending (k : CopyName) (c : Copy Settings) (b : Bool) : (endSave k c b s).pending = s.pending := rfl
@[simp] theorem endSave_now (k : CopyName) (c : Copy Settings) (b : Bool) : (endSave k c b s).now = s.now := rfl
@[simp] theorem endSave_settings (k : CopyName) (c : Copy Settings) (b : Bool) : (endSave k c b s).settings = s.settings := rfl
@[simp] theorem endSave_positions (k : CopyName) (c : Copy Settings) (b : Bool) : (endSave k c b s).positions = s.positions := rfl
@[simp] theorem endSave_seq (k : CopyName) (c : Copy Settings) (b : Bool) : (endSave k c b s).seq = s.seq := rfl
@[simp] theorem endSave_drive (k : CopyName) (c : Copy Settings) (b : Bool) : (endSave k c b s).drive = s.drive := rfl
@[simp] theorem endSave_safety (k : CopyName) (c : Copy Settings) (b : Bool) : (endSave k c b s).safety = s.safety := rfl
@[simp] theorem endSave_leakage (k : CopyName) (c : Copy Settings) (b : Bool) : (endSave k c b s).leakage = s.leakage := rfl
@[simp] theorem endSave_walk (k : CopyName) (c : Copy Settings) (b : Bool) : (endSave k c b s).walk = s.walk := rfl
@[simp] theorem endSave_ports (k : CopyName) (c : Copy Settings) (b : Bool) : (endSave k c b s).ports = s.ports := rfl
@[simp] theorem endSave_nextHour (k : CopyName) (c : Copy Settings) (b : Bool) : (endSave k c b s).nextHour = s.nextHour := rfl
@[simp] theorem endSave_key (k : CopyName) (c : Copy Settings) (b : Bool) : (endSave k c b s).key = s.key := rfl

@[simp] theorem snapshotRatios_pending : (snapshotRatios s).pending = s.pending := rfl
@[simp] theorem snapshotRatios_now : (snapshotRatios s).now = s.now := rfl
@[simp] theorem snapshotRatios_settings : (snapshotRatios s).settings = s.settings := rfl
@[simp] theorem snapshotRatios_positions : (snapshotRatios s).positions = s.positions := rfl
@[simp] theorem snapshotRatios_seq : (snapshotRatios s).seq = s.seq := rfl
@[simp] theorem snapshotRatios_drive : (snapshotRatios s).drive = s.drive := rfl
@[simp] theorem snapshotRatios_safety : (snapshotRatios s).safety = s.safety := rfl
@[simp] theorem snapshotRatios_leakage : (snapshotRatios s).leakage = s.leakage := rfl
@[simp] theorem snapshotRatios_walk : (snapshotRatios s).walk = s.walk := rfl
@[simp] theorem snapshotRatios_ports : (snapshotRatios s).ports = s.ports := rfl
@[simp] theorem snapshotRatios_key : (snapshotRatios s).key = s.key := rfl

@[simp] theorem learn_pending (r : SweepRecord) : (learn r s).pending = s.pending := rfl
@[simp] theorem learn_now (r : SweepRecord) : (learn r s).now = s.now := rfl
@[simp] theorem learn_settings (r : SweepRecord) : (learn r s).settings = s.settings := rfl
@[simp] theorem learn_seq (r : SweepRecord) : (learn r s).seq = s.seq := rfl
@[simp] theorem learn_drive (r : SweepRecord) : (learn r s).drive = s.drive := rfl
@[simp] theorem learn_safety (r : SweepRecord) : (learn r s).safety = s.safety := rfl
@[simp] theorem learn_leakage (r : SweepRecord) : (learn r s).leakage = s.leakage := rfl
@[simp] theorem learn_walk (r : SweepRecord) : (learn r s).walk = s.walk := rfl
@[simp] theorem learn_ports (r : SweepRecord) : (learn r s).ports = s.ports := rfl
@[simp] theorem learn_store (r : SweepRecord) : (learn r s).store = s.store := rfl
@[simp] theorem learn_nextHour (r : SweepRecord) : (learn r s).nextHour = s.nextHour := rfl
@[simp] theorem learn_key (r : SweepRecord) : (learn r s).key = s.key := rfl

@[simp] theorem markRetained_pending : (markRetained s).pending = s.pending := by unfold markRetained; split <;> rfl
@[simp] theorem markRetained_now : (markRetained s).now = s.now := by unfold markRetained; split <;> rfl
@[simp] theorem markRetained_settings : (markRetained s).settings = s.settings := by unfold markRetained; split <;> rfl
@[simp] theorem markRetained_positions : (markRetained s).positions = s.positions := by unfold markRetained; split <;> rfl
@[simp] theorem markRetained_seq : (markRetained s).seq = s.seq := by unfold markRetained; split <;> rfl
@[simp] theorem markRetained_drive : (markRetained s).drive = s.drive := by unfold markRetained; split <;> rfl
@[simp] theorem markRetained_safety : (markRetained s).safety = s.safety := by unfold markRetained; split <;> rfl
@[simp] theorem markRetained_leakage : (markRetained s).leakage = s.leakage := by unfold markRetained; split <;> rfl
@[simp] theorem markRetained_walk : (markRetained s).walk = s.walk := by unfold markRetained; split <;> rfl
@[simp] theorem markRetained_ports : (markRetained s).ports = s.ports := by unfold markRetained; split <;> rfl
@[simp] theorem markRetained_nextHour : (markRetained s).nextHour = s.nextHour := by unfold markRetained; split <;> rfl
@[simp] theorem markRetained_key : (markRetained s).key = s.key := by unfold markRetained; split <;> rfl

@[simp] theorem setCondition_pending (p : Pos) (c : Condition) : (setCondition p c s).pending = s.pending := by unfold setCondition; split <;> rfl
@[simp] theorem setCondition_now (p : Pos) (c : Condition) : (setCondition p c s).now = s.now := by unfold setCondition; split <;> rfl
@[simp] theorem setCondition_settings (p : Pos) (c : Condition) : (setCondition p c s).settings = s.settings := by unfold setCondition; split <;> rfl
@[simp] theorem setCondition_drive (p : Pos) (c : Condition) : (setCondition p c s).drive = s.drive := by unfold setCondition; split <;> rfl
@[simp] theorem setCondition_safety (p : Pos) (c : Condition) : (setCondition p c s).safety = s.safety := by unfold setCondition; split <;> rfl
@[simp] theorem setCondition_leakage (p : Pos) (c : Condition) : (setCondition p c s).leakage = s.leakage := by unfold setCondition; split <;> rfl
@[simp] theorem setCondition_walk (p : Pos) (c : Condition) : (setCondition p c s).walk = s.walk := by unfold setCondition; split <;> rfl
@[simp] theorem setCondition_ports (p : Pos) (c : Condition) : (setCondition p c s).ports = s.ports := by unfold setCondition; split <;> rfl
@[simp] theorem setCondition_store (p : Pos) (c : Condition) : (setCondition p c s).store = s.store := by unfold setCondition; split <;> rfl
@[simp] theorem setCondition_nextHour (p : Pos) (c : Condition) : (setCondition p c s).nextHour = s.nextHour := by unfold setCondition; split <;> rfl
@[simp] theorem setCondition_key (p : Pos) (c : Condition) : (setCondition p c s).key = s.key := by unfold setCondition; split <;> rfl

@[simp] theorem takeTarget_pending (p : Pos) : (takeTarget p s).pending = s.pending := by unfold takeTarget removeOrder; repeat (first | rfl | split)
@[simp] theorem takeTarget_now (p : Pos) : (takeTarget p s).now = s.now := by unfold takeTarget removeOrder; repeat (first | rfl | split)
@[simp] theorem takeTarget_settings (p : Pos) : (takeTarget p s).settings = s.settings := by unfold takeTarget removeOrder; repeat (first | rfl | split)
@[simp] theorem takeTarget_positions (p : Pos) : (takeTarget p s).positions = s.positions := by unfold takeTarget removeOrder; repeat (first | rfl | split)
@[simp] theorem takeTarget_seq (p : Pos) : (takeTarget p s).seq = s.seq := by unfold takeTarget removeOrder; repeat (first | rfl | split)
@[simp] theorem takeTarget_safety (p : Pos) : (takeTarget p s).safety = s.safety := by unfold takeTarget removeOrder; repeat (first | rfl | split)
@[simp] theorem takeTarget_leakage (p : Pos) : (takeTarget p s).leakage = s.leakage := by unfold takeTarget removeOrder; repeat (first | rfl | split)
@[simp] theorem takeTarget_walk (p : Pos) : (takeTarget p s).walk = s.walk := by unfold takeTarget removeOrder; repeat (first | rfl | split)
@[simp] theorem takeTarget_ports (p : Pos) : (takeTarget p s).ports = s.ports := by unfold takeTarget removeOrder; repeat (first | rfl | split)
@[simp] theorem takeTarget_store (p : Pos) : (takeTarget p s).store = s.store := by unfold takeTarget removeOrder; repeat (first | rfl | split)
@[simp] theorem takeTarget_nextHour (p : Pos) : (takeTarget p s).nextHour = s.nextHour := by unfold takeTarget removeOrder; repeat (first | rfl | split)
@[simp] theorem takeTarget_key (p : Pos) : (takeTarget p s).key = s.key := by unfold takeTarget removeOrder; repeat (first | rfl | split)

@[simp] theorem startNext_pending : (startNext s).pending = s.pending := by unfold startNext; repeat (first | rfl | split)
@[simp] theorem startNext_now : (startNext s).now = s.now := by unfold startNext; repeat (first | rfl | split)
@[simp] theorem startNext_settings : (startNext s).settings = s.settings := by unfold startNext; repeat (first | rfl | split)
@[simp] theorem startNext_positions : (startNext s).positions = s.positions := by unfold startNext; repeat (first | rfl | split)
@[simp] theorem startNext_drive : (startNext s).drive = s.drive := by unfold startNext; repeat (first | rfl | split)
@[simp] theorem startNext_safety : (startNext s).safety = s.safety := by unfold startNext; repeat (first | rfl | split)
@[simp] theorem startNext_leakage : (startNext s).leakage = s.leakage := by unfold startNext; repeat (first | rfl | split)
@[simp] theorem startNext_walk : (startNext s).walk = s.walk := by unfold startNext; repeat (first | rfl | split)
@[simp] theorem startNext_ports : (startNext s).ports = s.ports := by unfold startNext; repeat (first | rfl | split)
@[simp] theorem startNext_store : (startNext s).store = s.store := by unfold startNext; repeat (first | rfl | split)
@[simp] theorem startNext_nextHour : (startNext s).nextHour = s.nextHour := by unfold startNext; repeat (first | rfl | split)
@[simp] theorem startNext_key : (startNext s).key = s.key := by unfold startNext; repeat (first | rfl | split)

@[simp] theorem startWrite_pending : (startWrite s).pending = s.pending := by unfold startWrite; split <;> rfl
@[simp] theorem startWrite_now : (startWrite s).now = s.now := by unfold startWrite; split <;> rfl
@[simp] theorem startWrite_settings : (startWrite s).settings = s.settings := by unfold startWrite; split <;> rfl
@[simp] theorem startWrite_positions : (startWrite s).positions = s.positions := by unfold startWrite; split <;> rfl
@[simp] theorem startWrite_seq : (startWrite s).seq = s.seq := by unfold startWrite; split <;> rfl
@[simp] theorem startWrite_drive : (startWrite s).drive = s.drive := by unfold startWrite; split <;> rfl
@[simp] theorem startWrite_safety : (startWrite s).safety = s.safety := by unfold startWrite; split <;> rfl
@[simp] theorem startWrite_leakage : (startWrite s).leakage = s.leakage := by unfold startWrite; split <;> rfl
@[simp] theorem startWrite_walk : (startWrite s).walk = s.walk := by unfold startWrite; split <;> rfl
@[simp] theorem startWrite_ports : (startWrite s).ports = s.ports := by unfold startWrite; split <;> rfl
@[simp] theorem startWrite_nextHour : (startWrite s).nextHour = s.nextHour := by unfold startWrite; split <;> rfl
@[simp] theorem startWrite_key : (startWrite s).key = s.key := by unfold startWrite; split <;> rfl

end Sys2Proof.Machine
end

