-- ==== Sys2Proof/Laws/Positions.lean ====
section
/-! SUPPORT. What each update leaves of a position: reads of tables after writes, and one equation for each operation that
changes positions. -/

namespace Sys2Proof

@[simp] theorem tabulate_get {α : Type} {n : Nat} (f : Fin n → α) (i : Fin n) : (tabulate f).get i = f i := by
  simp [tabulate, Vector.get]
  rfl

theorem get_set {α : Type} {n : Nat} (v : Vector α n) (i j : Fin n) (x : α) :
    (v.set i x).get j = if j = i then x else v.get j := by
  show (v.set i.val x i.isLt)[j.val] = if j = i then x else v[j.val]
  rw [Vector.getElem_set]
  by_cases h : j = i
  · subst h; simp
  · have : i.val ≠ j.val := fun e => h (Fin.ext e.symm)
    simp [h, this]

@[simp] theorem get_replicate {α : Type} {n : Nat} (x : α) (i : Fin n) : (Vector.replicate n x).get i = x := by
  simp [Vector.get]

@[simp] theorem get_map {α β : Type} {n : Nat} (f : α → β) (v : Vector α n) (i : Fin n) :
    (v.map f).get i = f (v.get i) := by
  simp [Vector.get]

theorem vector_ext_get {α : Type} {n : Nat} {v w : Vector α n} (h : ∀ i, v.get i = w.get i) : v = w := by
  apply Vector.ext
  intro i hi
  exact h ⟨i, hi⟩

@[simp] theorem set_get_self {α : Type} {n : Nat} (v : Vector α n) (i : Fin n) : v.set i (v.get i) = v := by
  apply vector_ext_get
  intro j
  rw [get_set]
  split <;> simp_all

theorem Pos.mem_all (p : Pos) : p ∈ Pos.all := List.mem_finRange p

namespace Machine

variable (s : State)

theorem pos_eq_of_positions {s t : State} (h : t.positions = s.positions) (p : Pos) : t.pos p = s.pos p := by
  simp [State.pos, h]

theorem modify_pos (p j : Pos) (f : PosState → PosState) : (s.modify p f).pos j = if j = p then f (s.pos p) else s.pos j := by
  simp [State.modify, State.pos, get_set]

theorem setQual_pos (p j : Pos) (q : QualRecord) :
    (setQual p q s).pos j = if j = p then { s.pos p with qual := q } else s.pos j := modify_pos s p j _

theorem modifyQual_pos (p j : Pos) (f : QualRecord → QualRecord) :
    (modifyQual p f s).pos j = if j = p then { s.pos p with qual := f (s.pos p).qual } else s.pos j := modify_pos s p j _

theorem setResidual_pos (p j : Pos) (n : Nat) :
    (setResidual p n s).pos j = if j = p then { s.pos p with residual := n } else s.pos j := modify_pos s p j _

theorem setRatio_pos (p j : Pos) (n : Nat) :
    (setRatio p n s).pos j = if j = p then { s.pos p with ratio := n } else s.pos j := modify_pos s p j _

theorem setGate_pos (p j : Pos) (b : Bool) :
    (setGate p b s).pos j = if j = p then { s.pos p with gate := b } else s.pos j := modify_pos s p j _

theorem putHolder_pos (h : Holder) (b : Bool) (r : Option Reason) (p j : Pos) :
    (putHolder h b r p s).pos j =
      if j = p then
        { s.pos p with
          holds := (s.pos p).holds.put h b, reason := reasonAfter h b r (s.pos p).reason, lastChange := s.uptime }
      else s.pos j := modify_pos s p j _

theorem setCondition_pos (p j : Pos) (c : Condition) :
    (setCondition p c s).pos j = if j = p then { s.pos p with condition := c } else s.pos j := by
  unfold setCondition
  split
  · split
    · rename_i h1 h2; subst h2; rw [← h1]
    · rfl
  · exact modify_pos s p j (fun x => { x with condition := c })

theorem learn_pos (r : SweepRecord) (j : Pos) :
    (learn r s).pos j = { s.pos j with ratio := s.nextRatio r j, lastClass := some (r.cls j) } := by
  simp [learn, State.pos]

@[simp] theorem emit_pos (k : NoticeKind) (e : Edge) (p : Option Pos) (d : Detail) (j : Pos) :
    (emit k e p d s).pos j = s.pos j := rfl

@[simp] theorem modifyPort_pos (q : Port) (f : PortState → PortState) (j : Pos) : (modifyPort q f s).pos j = s.pos j := rfl

@[simp] theorem toAnswering_pos (q : Port) (j : Pos) : (toAnswering q s).pos j = s.pos j := rfl

@[simp] theorem advanceTo_pos (t : Nat) (j : Pos) : (advanceTo t s).pos j = s.pos j := rfl

@[simp] theorem setSafety_pos (a : SafetyState) (due : Option Nat) (b : Bool) (j : Pos) :
    (setSafety a due b s).pos j = s.pos j := rfl

@[simp] theorem setRole_pos (p j : Pos) (r : Role) : (setRole p r s).pos j = s.pos j := rfl

@[simp] theorem putSetting_pos (x : Setting) (v : Nat) (j : Pos) : (putSetting x v s).pos j = s.pos j := rfl

@[simp] theorem removeOrder_pos (p j : Pos) : (removeOrder p s).pos j = s.pos j := rfl

@[simp] theorem markRetained_pos (j : Pos) : (markRetained s).pos j = s.pos j :=
  pos_eq_of_positions (by simp) j

@[simp] theorem takeTarget_pos (p j : Pos) : (takeTarget p s).pos j = s.pos j := pos_eq_of_positions (by simp) j

@[simp] theorem startNext_pos (j : Pos) : (startNext s).pos j = s.pos j := pos_eq_of_positions (by simp) j

@[simp] theorem startWrite_pos (j : Pos) : (startWrite s).pos j = s.pos j := pos_eq_of_positions (by simp) j

theorem setRole_role (p j : Pos) (r : Role) : (setRole p r s).role j = if j = p then r else s.role j := by
  simp [setRole, State.role, get_set]

theorem role_eq_of_settings {s t : State} (h : t.settings = s.settings) (p : Pos) : t.role p = s.role p := by
  simp [State.role, h]

end Machine

end Sys2Proof
end

