-- ==== Sys2Proof/Laws/Acts.lean ====
section
/-! SUPPORT. `Acts s t`: what every operation of the Isolation Table, Fault Qualifier, Switch Drive, walk and arbiter
leaves alone, with what it may do to the ports and the store. One lemma for each operation. -/

namespace Sys2Proof.Machine

/-- The ports after a notice is offered to each (R152). -/
def offerPorts (sub : PerPort (PerKind Subscription)) (x : PerPort PortState) (n : Notice) : PerPort PortState :=
  ⟨offer sub.linkP n x.linkP, offer sub.linkS n x.linkS, offer sub.service n x.service⟩

/-- What the operations named above leave alone: the queue of commands, the clock, the settings, the safety and alarm
states, the hourly mark, the key, the last sweep number, every ratio and last class. They change the ports by
offering notices, and the store by marking the retained state for writing, at most once (R169). -/
structure Acts (s t : State) : Prop where
  pending : t.pending = s.pending
  now : t.now = s.now
  settings : t.settings = s.settings
  safety : t.safety = s.safety
  leakage : t.leakage = s.leakage
  nextHour : t.nextHour = s.nextHour
  key : t.key = s.key
  lastNumber : t.seq.lastNumber = s.seq.lastNumber
  ratio : ∀ p, (t.pos p).ratio = (s.pos p).ratio
  lastClass : ∀ p, (t.pos p).lastClass = (s.pos p).lastClass
  ports : ∃ ns : List Notice, t.ports = ns.foldl (offerPorts s.settings.subscription) s.ports
  store : t.store = s.store
    ∨ (Waiting.retained ∉ s.store.waiting ∧ t.store = { s.store with waiting := s.store.waiting ++ [.retained] })

theorem Acts.refl (s : State) : Acts s s :=
  ⟨rfl, rfl, rfl, rfl, rfl, rfl, rfl, rfl, fun _ => rfl, fun _ => rfl, ⟨[], rfl⟩, .inl rfl⟩

theorem Acts.trans {s t u : State} (h : Acts s t) (k : Acts t u) : Acts s u where
  pending := k.pending.trans h.pending
  now := k.now.trans h.now
  settings := k.settings.trans h.settings
  safety := k.safety.trans h.safety
  leakage := k.leakage.trans h.leakage
  nextHour := k.nextHour.trans h.nextHour
  key := k.key.trans h.key
  lastNumber := k.lastNumber.trans h.lastNumber
  ratio p := (k.ratio p).trans (h.ratio p)
  lastClass p := (k.lastClass p).trans (h.lastClass p)
  ports := by
    obtain ⟨n, hn⟩ := h.ports
    obtain ⟨m, hm⟩ := k.ports
    exact ⟨n ++ m, by rw [hm, hn, h.settings, List.foldl_append]⟩
  store := by
    rcases h.store with hs | ⟨h1, hs⟩ <;> rcases k.store with ks | ⟨k1, ks⟩
    · exact .inl (ks.trans hs)
    · rw [hs] at k1 ks; exact .inr ⟨k1, ks⟩
    · exact .inr ⟨h1, ks.trans hs⟩
    · rw [hs] at k1; simp at k1

theorem Acts.foldl {α : Type} (f : State → α → State) (h : ∀ s a, Acts s (f s a)) (l : List α) (s : State) :
    Acts s (l.foldl f s) := by
  induction l generalizing s with
  | nil => exact .refl s
  | cons a l ih => exact (h s a).trans (ih _)

/-- A change of drive, walk and sequencer that keeps the last sweep number. -/
theorem Acts.of_eq (s : State) (d : Drive) (w : Walk) (q : Sequencer) (h : q.lastNumber = s.seq.lastNumber) :
    Acts s { s with drive := d, walk := w, seq := q } :=
  ⟨rfl, rfl, rfl, rfl, rfl, rfl, rfl, h, fun _ => rfl, fun _ => rfl, ⟨[], rfl⟩, .inl rfl⟩

theorem acts_modify (s : State) (p : Pos) (f : PosState → PosState) (h1 : ∀ x, (f x).ratio = x.ratio)
    (h2 : ∀ x, (f x).lastClass = x.lastClass) : Acts s (s.modify p f) := by
  refine ⟨rfl, rfl, rfl, rfl, rfl, rfl, rfl, rfl, fun j => ?_, fun j => ?_, ⟨[], rfl⟩, .inl rfl⟩ <;>
    rw [modify_pos] <;> split <;> simp_all

variable (s : State)

theorem acts_setQual (p : Pos) (q : QualRecord) : Acts s (setQual p q s) := acts_modify s p _ (fun _ => rfl) (fun _ => rfl)

theorem acts_modifyQual (p : Pos) (f : QualRecord → QualRecord) : Acts s (modifyQual p f s) := acts_setQual s p _

theorem acts_setResidual (p : Pos) (n : Nat) : Acts s (setResidual p n s) :=
  acts_modify s p _ (fun _ => rfl) (fun _ => rfl)

theorem acts_setGate (p : Pos) (b : Bool) : Acts s (setGate p b s) := acts_modify s p _ (fun _ => rfl) (fun _ => rfl)

theorem acts_putHolder (h : Holder) (b : Bool) (r : Option Reason) (p : Pos) : Acts s (putHolder h b r p s) :=
  acts_modify s p _ (fun _ => rfl) (fun _ => rfl)

theorem acts_emit (k : NoticeKind) (e : Edge) (p : Option Pos) (d : Detail) : Acts s (emit k e p d s) :=
  ⟨rfl, rfl, rfl, rfl, rfl, rfl, rfl, rfl, fun _ => rfl, fun _ => rfl,
   ⟨[⟨k, e, p, d, s.seq.lastNumber, s.uptime⟩], rfl⟩, .inl rfl⟩

theorem acts_removeOrder (p : Pos) : Acts s (removeOrder p s) := .of_eq _ _ _ _ (by rfl)

theorem acts_appendEntry (e : StepEntry) : Acts s (appendEntry e s) := .of_eq _ _ _ _ (by rfl)

theorem acts_markRetained : Acts s (markRetained s) := by
  unfold markRetained
  split
  · exact .refl s
  · rename_i h
    exact ⟨rfl, rfl, rfl, rfl, rfl, rfl, rfl, rfl, fun _ => rfl, fun _ => rfl, ⟨[], rfl⟩, .inr ⟨h, rfl⟩⟩

theorem conditionChanged_lastNumber (q : Sequencer) (p : Pos) : (q.conditionChanged p).lastNumber = q.lastNumber := by
  unfold Sequencer.conditionChanged
  split <;> rfl

theorem acts_setCondition (p : Pos) (c : Condition) : Acts s (setCondition p c s) := by
  unfold setCondition
  split
  · exact .refl s
  · exact (acts_modify s p (fun x => { x with condition := c }) (fun _ => rfl) (fun _ => rfl)).trans
      (.of_eq _ _ _ _ (conditionChanged_lastNumber _ p))

theorem acts_takeTarget (p : Pos) : Acts s (takeTarget p s) := by
  unfold takeTarget
  split
  · split
    · exact acts_removeOrder s p
    · split
      · exact .refl s
      · exact .of_eq _ _ _ _ (by rfl)
  · exact .refl s

theorem acts_takeTargets (ps : List Pos) : Acts s (takeTargets ps s) :=
  .foldl _ (fun s p => acts_takeTarget s p) ps s

theorem acts_startNext : Acts s (startNext s) := by
  unfold startNext
  split
  · split
    · exact .of_eq _ _ _ _ (by rfl)
    · split
      · exact .of_eq _ _ _ _ (by rfl)
      · split
        · exact .of_eq _ _ _ _ (by rfl)
        · exact .refl s
  · exact .refl s

theorem acts_requestLocate : Acts s (requestLocate s) := by
  unfold requestLocate
  split
  · exact .refl s
  · exact (Acts.of_eq _ _ _ _ (by rfl)).trans (acts_startNext _)

theorem acts_endWalk (o : WalkOutcome) (f : Option Pos) : Acts s (endWalk o f s) :=
  (Acts.of_eq _ _ _ _ (by rfl)).trans (acts_emit _ _ _ _ _)

theorem acts_nextCandidate : Acts s (nextCandidate s) := by
  unfold nextCandidate
  split
  · exact (Acts.of_eq _ _ _ _ (by rfl)).trans (acts_requestLocate _)
  · exact acts_endWalk s _ _

theorem acts_reclosingTest (p : Pos) : Acts s (reclosingTest p s) := by
  unfold reclosingTest
  split
  · exact acts_nextCandidate s
  · exact .refl s

theorem acts_interruptTrial (p : Pos) : Acts s (interruptTrial p s) :=
  ((acts_setQual s p _).trans (acts_putHolder _ _ _ _ _)).trans (acts_takeTarget _ p)

theorem acts_emitHolds (h : Holder) (b : Bool) (ps : List Pos) : Acts s (emitHolds h b ps s) := by
  unfold emitHolds
  split
  · exact .foldl _ (fun s p => acts_emit s _ _ _ _) ps s
  · exact .refl s

theorem acts_markLockout (h : Holder) (ps : List Pos) : Acts s (markLockout h ps s) := by
  unfold markLockout
  split
  · exact acts_markRetained s
  · exact .refl s

theorem acts_changeHolder (h : Holder) (b : Bool) (r : Option Reason) (ps : List Pos) :
    Acts s (changeHolder h b r ps s) :=
  ((((Acts.foldl _ (fun s p => acts_putHolder s h b r p) _ s).trans (acts_takeTargets _ _)).trans
    (acts_emitHolds _ h b _)).trans (acts_markLockout _ h _)).trans (.foldl _ (fun s p => acts_interruptTrial s p) _ _)

theorem acts_reclosingAfter (h : Holder) (b : Bool) (ps : List Pos) (s₀ : State) :
    Acts s (reclosingAfter h b ps s₀ s) := by
  unfold reclosingAfter
  split
  · split
    · exact acts_reclosingTest s _
    · exact .refl s
  · exact .refl s

theorem acts_changeHolds (h : Holder) (b : Bool) (r : Option Reason) (ps : List Pos) :
    Acts s (changeHolds h b r ps s) :=
  (acts_changeHolder s h b r ps).trans (acts_reclosingAfter _ h b ps s)

theorem acts_latch (p : Pos) : Acts s (latch p s) := (acts_modifyQual s p _).trans (acts_markRetained _)

theorem acts_openReport (p : Pos) : Acts s (openReport p s) := by
  unfold openReport
  split
  · split
    · exact acts_modifyQual s p _
    · exact acts_latch s p
  · exact .refl s

theorem acts_faultReport (p : Pos) : Acts s (faultReport p s) := by
  unfold faultReport
  split
  · exact acts_latch s p
  · exact acts_latch s p
  · exact (acts_latch s p).trans (acts_changeHolds _ _ _ _ _)
  · exact .refl s

theorem acts_qualReport (p : Pos) (c : Condition) : Acts s (qualReport p c s) := by
  cases c
  · exact acts_setResidual s p 0
  · exact acts_openReport s p
  · exact .refl s
  · exact acts_faultReport s p
  · exact acts_faultReport s p
  · exact acts_faultReport s p
  · exact .refl s

theorem acts_skipJammed (p : Pos) : Acts s (skipJammed p s) :=
  ((acts_changeHolds s _ _ _ _).trans (acts_appendEntry _ _)).trans (acts_nextCandidate _)

theorem acts_walkReport (p : Pos) (c : Condition) : Acts s (walkReport p c s) := by
  unfold walkReport
  split
  · split
    · exact .of_eq _ _ _ _ (by rfl)
    · exact acts_skipJammed s p
    · exact acts_reclosingTest s p
    · exact .refl s
  · exact .refl s

theorem acts_handOn (p : Pos) (c : Condition) : Acts s (handOn p c s) :=
  (acts_qualReport s p c).trans (acts_walkReport _ p c)

theorem acts_conditionReport (p : Pos) (c : Condition) : Acts s (conditionReport p c s) :=
  (acts_takeTarget s p).trans (acts_handOn _ p c)

theorem acts_conductingOpenReport (p : Pos) : Acts s (conductingOpenReport p s) := by
  unfold conductingOpenReport
  split
  · exact (((acts_setCondition s p _).trans (acts_removeOrder _ p)).trans (acts_emit _ _ _ _ _)).trans
      (acts_conditionReport _ p _)
  · exact .refl s

theorem acts_declaredStanding (p : Pos) : Acts s (declaredStanding p s) := by
  unfold declaredStanding
  split
  · exact acts_openReport s p
  · exact acts_faultReport s p
  · exact acts_faultReport s p
  · exact acts_faultReport s p
  · exact .refl s

theorem acts_insertFault (p : Pos) (c : Abnormal) : Acts s (insertFault p c s) :=
  ((acts_changeHolder s _ _ _ _).trans (acts_emit _ _ _ _ _)).trans (acts_reclosingAfter _ _ _ _ _)

theorem acts_declare (p : Pos) (c : Abnormal) : Acts s (declare p c s) := by
  unfold declare
  split
  · exact ((acts_modifyQual s p _).trans (acts_insertFault _ p c)).trans (acts_declaredStanding _ p)
  · exact (acts_modifyQual s p _).trans (acts_emit _ _ _ _ _)
  · exact .refl s

theorem acts_countAbnormal (p : Pos) (c : Abnormal) : Acts s (countAbnormal p c s) := by
  unfold countAbnormal
  split
  · exact (acts_modifyQual s p _).trans (acts_declare _ p c)
  · exact acts_modifyQual s p _

theorem acts_holdSuspicion (p : Pos) : Acts s (holdSuspicion p s) := by
  unfold holdSuspicion
  split <;> exact acts_modifyQual s p _

theorem acts_recovered (p : Pos) : Acts s (recovered p s) := (acts_setQual s p _).trans (acts_emit _ _ _ _ _)

theorem acts_confirmTrial (p : Pos) : Acts s (confirmTrial p s) := by
  unfold confirmTrial
  split
  · exact acts_recovered s p
  · exact acts_modifyQual s p _

theorem acts_confirmRecovery (p : Pos) : Acts s (confirmRecovery p s) := by
  unfold confirmRecovery
  split
  · exact acts_recovered s p
  · exact acts_modifyQual s p _

theorem acts_recheckExpired (p : Pos) : Acts s (recheckExpired p s) := by
  unfold recheckExpired
  split
  · exact acts_latch s p
  · split
    · exact (acts_modifyQual s p _).trans (acts_changeHolds _ _ _ _ _)
    · exact acts_modifyQual s p _

theorem acts_waitingSweep (p : Pos) : Acts s (waitingSweep p s) := by
  unfold waitingSweep
  split
  · split
    · exact acts_recheckExpired s p
    · exact acts_modifyQual s p _
  · exact .refl s

theorem acts_takeClass (p : Pos) (cls : Class) (c : Condition) : Acts s (takeClass p cls c s) := by
  unfold takeClass
  split
  · exact .refl s
  · split
    · exact acts_countAbnormal s p _
    · exact acts_countAbnormal s p _
    · exact acts_modifyQual s p _
    · exact acts_holdSuspicion s p
    · exact acts_waitingSweep s p
    · split
      · exact acts_countAbnormal s p _
      · exact .refl s
    · split
      · exact acts_confirmTrial s p
      · exact .refl s
    · exact acts_confirmRecovery s p
    · exact acts_modifyQual s p _
    · exact .refl s

theorem acts_countResidual (p : Pos) : Acts s (countResidual p s) := by
  unfold countResidual
  split
  · exact (acts_setResidual s p _).trans (acts_conductingOpenReport _ p)
  · exact acts_setResidual s p _

theorem acts_takeResidual (p : Pos) (cls : Class) (c : Condition) : Acts s (takeResidual p cls c s) := by
  unfold takeResidual
  split
  · split
    · exact acts_countResidual s p
    · exact .refl s
  · exact acts_setResidual s p 0
  · exact .refl s

theorem acts_takePosition (r : SweepRecord) (p : Pos) : Acts s (takePosition r p s) :=
  (acts_takeClass s p _ _).trans (acts_takeResidual _ p _ _)

theorem acts_emitCleared (p : Pos) (q : QualRecord) : Acts s (emitCleared p q s) := by
  unfold emitCleared
  split
  · exact acts_emit s _ _ _ _
  · exact .refl s

theorem acts_markUnlatched (q : QualRecord) : Acts s (markUnlatched q s) := by
  unfold markUnlatched
  split
  · exact acts_markRetained s
  · exact .refl s

theorem acts_replaceLocate (p : Pos) : Acts s (replaceLocate p s) := by
  unfold replaceLocate
  split
  · exact (acts_modify s p
      (fun x =>
        { x with
          holds := (x.holds.put .locate false).put .fault true, reason := some .ground
          lastChange := if (x.holds.put .locate false).put .fault true = x.holds then x.lastChange else s.uptime })
      (fun _ => rfl) (fun _ => rfl)).trans (acts_takeTarget _ p)
  · exact .refl s

theorem acts_groundLatch (p : Pos) : Acts s (groundLatch p s) :=
  (((acts_modifyQual s p _).trans (acts_replaceLocate _ p)).trans (acts_emit _ _ _ _ _)).trans (acts_markRetained _)

theorem acts_startWalk (o : WalkOrigin) : Acts s (startWalk o s) :=
  ((Acts.of_eq _ _ _ _ (by rfl)).trans (acts_emit _ _ _ _ _)).trans (acts_nextCandidate _)

theorem acts_baselineDecision (p : Pos) (l : Nat) : Acts s (baselineDecision p l s) := by
  unfold baselineDecision
  split
  · exact acts_endWalk s _ _
  · split
    · exact (acts_appendEntry s _).trans (acts_nextCandidate _)
    · exact (Acts.of_eq _ _ _ _ (by rfl)).trans (acts_changeHolds _ _ _ _ _)

theorem acts_measuringDecision (p : Pos) (l : Nat) : Acts s (measuringDecision p l s) := by
  unfold measuringDecision
  split
  · exact ((acts_appendEntry s _).trans (acts_groundLatch _ p)).trans (acts_endWalk _ _ _)
  · exact (((acts_appendEntry s _).trans (acts_changeHolds _ _ _ _ _)).trans
      (Acts.of_eq _ _ _ _ (by rfl))).trans (acts_reclosingTest _ p)

theorem acts_walkSweep (l : Nat) : Acts s (walkSweep l s) := by
  unfold walkSweep
  split
  · exact acts_baselineDecision s _ l
  · exact acts_measuringDecision s _ l
  · exact .refl s

theorem acts_releaseCandidate : Acts s (releaseCandidate s) := by
  unfold releaseCandidate
  split
  · exact acts_changeHolder s _ _ _ _
  · exact .refl s

theorem acts_abandonWalk : Acts s (abandonWalk s) := by
  unfold abandonWalk
  split
  · exact .refl s
  · exact (acts_releaseCandidate s).trans (acts_endWalk _ _ _)

theorem acts_setMoving (os : List BatchOrder) : Acts s (setMoving os s) :=
  .foldl _ (fun s _ => (acts_setCondition s _ _).trans (acts_setGate _ _ _)) os s

theorem acts_formBatch : Acts s (formBatch s) := by
  unfold formBatch
  split
  · exact (Acts.of_eq _ _ _ _ (by rfl)).trans (acts_setMoving _ _)
  · exact .refl s

theorem acts_formBatchAfter (s₀ : State) : Acts s (formBatchAfter s₀ s) := by
  unfold formBatchAfter
  split
  · exact acts_formBatch s
  · exact .refl s

theorem acts_emitVerified (p : Pos) (a b : Condition) : Acts s (emitVerified p a b s) := by
  unfold emitVerified
  split
  · exact acts_emit s _ _ _ _
  · split
    · exact acts_emit s _ _ _ _
    · split
      · exact acts_emit s _ _ _ _
      · exact .refl s

theorem acts_completeBatch (c : Contacts) (b : Batch) : Acts s (completeBatch c b s) :=
  (((((Acts.of_eq _ _ _ _ (by rfl)).trans
    (Acts.foldl _ (fun s _ => (acts_setCondition s _ _).trans (acts_setGate _ _ _)) _ _)).trans
    (acts_takeTargets _ _)).trans (Acts.foldl _ (fun s _ => acts_emitVerified s _ _ _) _ _)).trans
    (Acts.foldl _ (fun s _ => acts_handOn s _ _) _ _)).trans (acts_formBatch _)

theorem acts_removeFault (p : Pos) (old : QualRecord) : Acts s (removeFault p old s) :=
  (((acts_changeHolder s _ _ _ _).trans (acts_emitCleared _ p old)).trans (acts_markUnlatched _ old)).trans
    (acts_reclosingAfter _ _ _ _ _)

theorem acts_clearFault (p : Pos) : Acts s (clearFault p s) := by
  unfold clearFault
  split
  · exact .refl s
  · exact (acts_setQual s p _).trans (acts_removeFault _ p _)

theorem acts_clearSwitch (c : Contacts) (p : Pos) : Acts s (clearSwitch c p s) := by
  unfold clearSwitch
  split
  · exact (((acts_setCondition s p _).trans (acts_setResidual _ p 0)).trans (acts_emit _ _ _ _ _)).trans
      (acts_conditionReport _ p _)
  · exact .refl s

theorem acts_clearRecord (p : Pos) : Acts s (clearRecord p s) :=
  ((acts_setQual s p _).trans (acts_setResidual _ p 0)).trans (acts_emitCleared _ p _)

end Sys2Proof.Machine
end

