-- ==== Sys2Proof/Laws/Requests.lean ====
section
/-! SUPPORT. The ports as tables, and the taking of a request: one lemma for each outcome of `receiveRequest`. -/

namespace Sys2Proof.Machine

theorem port_get_set {α : Type} (t : PerPort α) (q r : Port) (v : α) :
    (t.set q v).get r = if r = q then v else t.get r := by
  cases q <;> cases r <;> simp [PerPort.set, PerPort.get]

@[simp] theorem port_get_set_self {α : Type} (t : PerPort α) (q : Port) (v : α) : (t.set q v).get q = v := by
  simp [port_get_set]

@[simp] theorem port_set_set {α : Type} (t : PerPort α) (q : Port) (v w : α) : (t.set q v).set q w = t.set q w := by
  cases q <;> simp [PerPort.set]

@[simp] theorem port_set_get {α : Type} (t : PerPort α) (q : Port) : t.set q (t.get q) = t := by
  cases q <;> simp [PerPort.set, PerPort.get]

theorem port_ext {α : Type} {t u : PerPort α} (h : ∀ q, t.get q = u.get q) : t = u := by
  obtain ⟨a, b, c⟩ := t
  obtain ⟨d, e, f⟩ := u
  have h1 := h .linkP
  have h2 := h .linkS
  have h3 := h .service
  simp only [PerPort.get] at h1 h2 h3
  rw [h1, h2, h3]

theorem modifyPort_get (q r : Port) (f : PortState → PortState) (s : State) :
    (modifyPort q f s).ports.get r = if r = q then f (s.ports.get q) else s.ports.get r := by
  simp [modifyPort, port_get_set]

@[simp] theorem modifyPort_get_self (q : Port) (f : PortState → PortState) (s : State) :
    (modifyPort q f s).ports.get q = f (s.ports.get q) := by
  simp [modifyPort_get]

@[simp] theorem modifyPort_modifyPort (q : Port) (f g : PortState → PortState) (s : State) :
    modifyPort q g (modifyPort q f s) = modifyPort q (fun x => g (f x)) s := by
  simp [modifyPort]

/-- A frame that is ready is taken as a request (R158). -/
theorem receiveRequest_ready {q : Port} {station code : Byte} {body : List Byte} {s : State}
    (h : Ready q station code body s) (f : State → Reply) :
    receiveRequest q station code body f s = takeRequest q station code f s := by
  obtain ⟨h1, h2, h3⟩ := h
  simp [receiveRequest, judgeFrame, h1, h2, h3]

/-- A request that changes nothing leaves its answer alone (R160). -/
theorem takeRequest_quiet {q : Port} {station code : Byte} {f : State → Reply} {s : State} {out : List Byte}
    (h : f (toAnswering q s) = (toAnswering q s, out)) :
    takeRequest q station code f s = answered q station code out s := by
  unfold takeRequest sendAnswer
  rw [h]
  simp only [toAnswering, modifyPort_modifyPort]
  rfl

/-- A request whose change commutes with the receiver's move into ANSWERING leaves the change and its answer. -/
theorem takeRequest_change {q : Port} {station code : Byte} {f : State → Reply} {s u : State} {out : List Byte}
    (h : f (toAnswering q s) = (toAnswering q u, out)) :
    takeRequest q station code f s = answered q station code out u := by
  unfold takeRequest sendAnswer
  rw [h]
  simp only [toAnswering, modifyPort_modifyPort]
  rfl

end Sys2Proof.Machine
end

