-- ==== Sys2Proof/Laws/Answering.lean ====
section
/-! SUPPORT. A request is judged on the state whose port is already in ANSWERING. What a port's receiver is, no operatio
    n
reads: each of them gives the same state, with that receiver, as on the state before. One lemma for each operation. -/

namespace Sys2Proof.Machine

variable (q : Port) (s : State)

@[simp] theorem toAnswering_role (p) : (toAnswering q s).role p = s.role p := rfl
@[simp] theorem toAnswering_uptime : (toAnswering q s).uptime = s.uptime := rfl
@[simp] theorem toAnswering_pinned (n) : (toAnswering q s).pinned n = s.pinned n := by
  cases q <;> rfl

@[simp] theorem toAnswering_reusable (n) : (toAnswering q s).reusable n = s.reusable n := by
  simp [State.reusable]

@[simp] theorem toAnswering_chooseSlot : (toAnswering q s).chooseSlot = s.chooseSlot := by
  simp [State.chooseSlot]

@[simp] theorem toAnswering_alters (h b p) : alters h b (toAnswering q s) p = alters h b s p := rfl
@[simp] theorem toAnswering_interrupts (h b p) : interrupts h b (toAnswering q s) p = interrupts h b s p := rfl

theorem toAnswering_ite {c : Prop} [Decidable c] {a a' b b' : State} (h : a = toAnswering q b) (h' : a'
    = toAnswering q b') : (if c then a else a') = toAnswering q (if c then b else b') := by
  split <;> assumption

/-- A port whose receiver is in ANSWERING. -/
def answering (x : PortState) : PortState := { x with receiver := .answering }

theorem offer_answering (sub n x) : offer sub n (answering x) = answering (offer sub n x) := by
  unfold offer answering; dsimp only; split <;> (try split) <;> rfl

theorem toAnswering_emit (k e p d) : emit k e p d (toAnswering q s) = toAnswering q (emit k e p d s) := by
  have h (n) := offer_answering (s.settings.subscription.get q) n (s.ports.get q)
  cases q
  · exact congrArg (fun y => { s with ports :=
      ⟨y, (emit k e p d s).ports.linkS, (emit k e p d s).ports.service⟩ }) (h _)
  · exact congrArg (fun y => { s with ports :=
      ⟨(emit k e p d s).ports.linkP, y, (emit k e p d s).ports.service⟩ }) (h _)
  · exact congrArg (fun y => { s with ports :=
      ⟨(emit k e p d s).ports.linkP, (emit k e p d s).ports.linkS, y⟩ }) (h _)

theorem toAnswering_modify (p f) : (toAnswering q s).modify p f = toAnswering q (s.modify p f) := rfl

theorem toAnswering_setQual (p x) : setQual p x (toAnswering q s) = toAnswering q (setQual p x s) := rfl

theorem toAnswering_modifyQual (p x) : modifyQual p x (toAnswering q s) = toAnswering q (modifyQual p x s) := rfl

theorem toAnswering_setResidual (p x) : setResidual p x (toAnswering q s) = toAnswering q (setResidual p x s) := rfl

theorem toAnswering_setRatio (p x) : setRatio p x (toAnswering q s) = toAnswering q (setRatio p x s) := rfl

theorem toAnswering_setGate (p x) : setGate p x (toAnswering q s) = toAnswering q (setGate p x s) := rfl

theorem toAnswering_putHolder (h b r p) :
    putHolder h b r p (toAnswering q s) = toAnswering q (putHolder h b r p s) := rfl

theorem toAnswering_removeOrder (p) : removeOrder p (toAnswering q s) = toAnswering q (removeOrder p s) := rfl

theorem toAnswering_appendEntry (p) : appendEntry p (toAnswering q s) = toAnswering q (appendEntry p s) := rfl

theorem toAnswering_markRetained : markRetained (toAnswering q s) = toAnswering q (markRetained s) := by
  simp only [markRetained, toAnswering_store]
  repeat' (first | rfl | contradiction | (split <;> try simp only [*, ↓reduceIte]))

theorem toAnswering_setCondition (p c) : setCondition p c (toAnswering q s) = toAnswering q (setCondition p c s) := by
  simp only [setCondition, toAnswering_pos]
  repeat' (first | rfl | contradiction | (split <;> try simp only [*, ↓reduceIte]))

theorem toAnswering_takeTarget (p) : takeTarget p (toAnswering q s) = toAnswering q (takeTarget p s) := by
  simp only [takeTarget, toAnswering_pos, toAnswering_drive]
  repeat' (first | rfl | contradiction | (split <;> try simp only [*, ↓reduceIte]))

theorem toAnswering_foldl {α} {f : State → α → State}
    (h : ∀ s a, f (toAnswering q s) a = toAnswering q (f s a)) (l : List α) :
    ∀ s, l.foldl f (toAnswering q s) = toAnswering q (l.foldl f s) := by
  induction l with
  | nil => intro s; rfl
  | cons a l ih => intro s; simp only [List.foldl_cons, h, ih]

theorem toAnswering_takeTargets (ps) : takeTargets ps (toAnswering q s) = toAnswering q (takeTargets ps s) :=
    toAnswering_foldl q (fun s a => toAnswering_takeTarget q s a) ps s

theorem toAnswering_beginSweep (o w i) :
    beginSweep o w i (toAnswering q s) = toAnswering q (beginSweep o w i s) := rfl

theorem toAnswering_startNext : startNext (toAnswering q s) = toAnswering q (startNext s) := by
  simp only [startNext, toAnswering_seq, toAnswering_chooseSlot]
  repeat' (first | rfl | contradiction | (split <;> try simp only [*]))

theorem toAnswering_requestLocate : requestLocate (toAnswering q s) = toAnswering q (requestLocate s) := by
  exact toAnswering_ite q rfl (toAnswering_startNext q { s with seq := { s.seq with locateWaiting := true } })

theorem toAnswering_endWalk (o f) : endWalk o f (toAnswering q s) = toAnswering q (endWalk o f s) :=
    toAnswering_emit q { s with walk := _, seq := _ } _ _ _ _

theorem toAnswering_nextCandidate : nextCandidate (toAnswering q s) = toAnswering q (nextCandidate s) := by
  exact toAnswering_ite q (toAnswering_requestLocate q { s with walk := _ }) (toAnswering_endWalk q s _ _)

theorem toAnswering_reclosingTest (p) : reclosingTest p (toAnswering q s) = toAnswering q (reclosingTest p s) := by
  exact toAnswering_ite q (toAnswering_nextCandidate q s) rfl

theorem toAnswering_interruptTrial (p) : interruptTrial p (toAnswering q s) = toAnswering q (interruptTrial p s) := by
  simp only [interruptTrial, toAnswering_pos, toAnswering_settings, toAnswering_setQual,
      toAnswering_putHolder, toAnswering_takeTarget]

theorem toAnswering_emitHolds (h b ps) : emitHolds h b ps (toAnswering q s) = toAnswering q (emitHolds h b ps s) := by
  exact toAnswering_ite q (toAnswering_foldl q (fun s a => toAnswering_emit q s _ _ _ _) ps s) rfl

theorem toAnswering_markLockout (h ps) : markLockout h ps (toAnswering q s) = toAnswering q (markLockout h ps s) := by
  exact toAnswering_ite q (toAnswering_markRetained q s) rfl

theorem toAnswering_changeHolder (h b r ps) :
    changeHolder h b r ps (toAnswering q s) = toAnswering q (changeHolder h b r ps s) := by
  have e1 : alters h b (toAnswering q s) = alters h b s := rfl
  have e2 : interrupts h b (toAnswering q s) = interrupts h b s := rfl
  simp only [changeHolder, e1, e2]
  rw [toAnswering_foldl q (fun s a => toAnswering_putHolder q s h b r a), toAnswering_takeTargets,
      toAnswering_emitHolds, toAnswering_markLockout,
      toAnswering_foldl q (fun s a => toAnswering_interruptTrial q s a)]

theorem toAnswering_reclosingAfter (h b ps) (s₀ : State) :
    reclosingAfter h b ps (toAnswering q s₀) (toAnswering q s) = toAnswering q (reclosingAfter h b ps s₀ s) := by
  simp only [reclosingAfter, toAnswering_walk, toAnswering_alters, toAnswering_reclosingTest]
  repeat' (first | rfl | contradiction | (split <;> try simp only [*]))

theorem toAnswering_changeHolds (h b r ps) :
    changeHolds h b r ps (toAnswering q s) = toAnswering q (changeHolds h b r ps s) := by
  simp only [changeHolds, toAnswering_changeHolder, toAnswering_reclosingAfter]

theorem toAnswering_latch (p) : latch p (toAnswering q s) = toAnswering q (latch p s) := by
  simp only [latch, toAnswering_modifyQual, toAnswering_markRetained]

theorem toAnswering_openReport (p) : openReport p (toAnswering q s) = toAnswering q (openReport p s) := by
  simp only [openReport, toAnswering_pos, toAnswering_settings, toAnswering_latch, toAnswering_modifyQual]
  repeat' (first | rfl | contradiction | (split <;> try simp only [*]))

theorem toAnswering_faultReport (p) : faultReport p (toAnswering q s) = toAnswering q (faultReport p s) := by
  simp only [faultReport, toAnswering_pos, toAnswering_latch, toAnswering_changeHolds]
  repeat' (first | rfl | contradiction | (split <;> try simp only [*]))

theorem toAnswering_qualReport (p c) : qualReport p c (toAnswering q s) = toAnswering q (qualReport p c s) := by
  cases c <;> simp only [qualReport, toAnswering_openReport, toAnswering_faultReport, toAnswering_setResidual]

theorem toAnswering_skipJammed (p) : skipJammed p (toAnswering q s) = toAnswering q (skipJammed p s) := by
  simp only [skipJammed, toAnswering_changeHolds, toAnswering_appendEntry, toAnswering_nextCandidate,
      toAnswering_walk]

theorem toAnswering_walkReport (p c) : walkReport p c (toAnswering q s) = toAnswering q (walkReport p c s) := by
  simp only [walkReport, toAnswering_walk, toAnswering_skipJammed, toAnswering_reclosingTest]
  repeat' (first | rfl | contradiction | (split <;> try simp only [*]))

theorem toAnswering_handOn (p c) : handOn p c (toAnswering q s) = toAnswering q (handOn p c s) := by
  simp only [handOn, toAnswering_qualReport, toAnswering_walkReport]

theorem toAnswering_conditionReport (p c) :
    conditionReport p c (toAnswering q s) = toAnswering q (conditionReport p c s) := by
  simp only [conditionReport, toAnswering_takeTarget, toAnswering_handOn]

theorem toAnswering_emitCleared (p x) : emitCleared p x (toAnswering q s) = toAnswering q (emitCleared p x s) := by
  simp only [emitCleared, toAnswering_emit]; repeat' (first | rfl | contradiction | (split <;> try simp only [*]))

theorem toAnswering_emitRemoved (p x k) :
    emitRemoved p x k (toAnswering q s) = toAnswering q (emitRemoved p x k s) := by
  simp only [emitRemoved, toAnswering_emit]; repeat' (first | rfl | contradiction | (split <;> try simp only [*]))

theorem toAnswering_markUnlatched (x) : markUnlatched x (toAnswering q s) = toAnswering q (markUnlatched x s) := by
  simp only [markUnlatched, toAnswering_markRetained]
  repeat' (first | rfl | contradiction | (split <;> try simp only [*]))

theorem toAnswering_removeFault (p old) :
    removeFault p old (toAnswering q s) = toAnswering q (removeFault p old s) := by
  simp only [removeFault, toAnswering_changeHolder, toAnswering_emitCleared, toAnswering_markUnlatched,
      toAnswering_reclosingAfter]

theorem toAnswering_clearFault (p) : clearFault p (toAnswering q s) = toAnswering q (clearFault p s) := by
  simp only [clearFault, toAnswering_pos, toAnswering_settings, toAnswering_setQual, toAnswering_removeFault]
  split <;> rfl

theorem toAnswering_clearSwitch (c p) : clearSwitch c p (toAnswering q s) = toAnswering q (clearSwitch c p s) := by
  simp only [clearSwitch, toAnswering_pos, toAnswering_setCondition, toAnswering_setResidual,
      toAnswering_emit, toAnswering_conditionReport]
  repeat' (first | rfl | contradiction | (split <;> try simp only [*]))

theorem toAnswering_startWalk (o) : startWalk o (toAnswering q s) = toAnswering q (startWalk o s) := by
  have walk : ∀ w, ({ toAnswering q s with walk := w } : State) = toAnswering q { s with walk := w } := fun _ => rfl
  have cands : (toAnswering q s).candidates = s.candidates := rfl
  simp only [startWalk, walk, cands, toAnswering_uptime, toAnswering_emit, toAnswering_nextCandidate]

theorem toAnswering_setRole (p r) : setRole p r (toAnswering q s) = toAnswering q (setRole p r s) := rfl

theorem toAnswering_leaveSwitching (p r) :
    leaveSwitching p r (toAnswering q s) = toAnswering q (leaveSwitching p r s) := by
  simp only [leaveSwitching, toAnswering_pos, toAnswering_settings, toAnswering_uptime,
      toAnswering_setRole, toAnswering_removeOrder, toAnswering_setCondition, toAnswering_modify,
      toAnswering_emitRemoved, toAnswering_emitCleared, toAnswering_markUnlatched, toAnswering_walkReport]

theorem toAnswering_clearRecord (p) : clearRecord p (toAnswering q s) = toAnswering q (clearRecord p s) := by
  simp only [clearRecord, toAnswering_pos, toAnswering_settings, toAnswering_setQual,
      toAnswering_setResidual, toAnswering_emitCleared]

theorem toAnswering_enterSwitching (c p) :
    enterSwitching c p (toAnswering q s) = toAnswering q (enterSwitching c p s) := by
  have h : ∀ s, placeSafetyOn p (toAnswering q s) = toAnswering q (placeSafetyOn p s) := by
    intro s; simp only [placeSafetyOn, toAnswering_safety, toAnswering_pos,
        toAnswering_putHolder]; repeat' (first | rfl | contradiction | (split <;> try simp only [*, ↓reduceIte]))
  have h2 : ∀ s, startEmpty p (toAnswering q s) = toAnswering q (startEmpty p s) := fun s => rfl
  simp only [enterSwitching, toAnswering_setRole, toAnswering_setCondition, h, h2, toAnswering_clearRecord,
      toAnswering_conditionReport]

end Sys2Proof.Machine
end

