-- ==== Sys2Proof/Laws/Isolation.lean ====
section
/-! SUPPORT. Hold changes, position by position: what one change of a holder leaves in the record of each position (R85,
R86, R89), and what a batch's formation leaves. -/

namespace Sys2Proof.Machine

variable (s : State)

/-- A fold of updates that each touch their own position: the record of a position after the fold. -/
theorem foldl_pos_of_notMem {f : State → Pos → State} (hf : ∀ s p j, j ≠ p → (f s p).pos j = s.pos j) (l : List Pos)
    (s : State) (j : Pos) (h : j ∉ l) : (l.foldl f s).pos j = s.pos j := by
  induction l generalizing s with
  | nil => rfl
  | cons a l ih =>
    simp only [List.mem_cons, not_or] at h
    rw [List.foldl_cons, ih _ h.2, hf s a j h.1]

@[simp] theorem takeTargets_pos (ps : List Pos) (j : Pos) : (takeTargets ps s).pos j = s.pos j := by
  unfold takeTargets
  induction ps generalizing s with
  | nil => rfl
  | cons a l ih => rw [List.foldl_cons, ih, takeTarget_pos]

@[simp] theorem emitHolds_pos (h : Holder) (b : Bool) (ps : List Pos) (j : Pos) :
    (emitHolds h b ps s).pos j = s.pos j := by
  unfold emitHolds
  split
  · induction ps generalizing s with
    | nil => rfl
    | cons a l ih => rw [List.foldl_cons, ih]; simp
  · rfl

@[simp] theorem markLockout_pos (h : Holder) (ps : List Pos) (j : Pos) : (markLockout h ps s).pos j = s.pos j := by
  unfold markLockout
  split <;> simp

theorem uptime_eq {s t : State} (h : t.now = s.now) : t.uptime = s.uptime := by simp [State.uptime, h]

theorem interruptTrial_pos (p j : Pos) :
    (interruptTrial p s).pos j =
      if j = p then
        { s.pos p with
          qual := interrupted s.settings (s.pos p).qual, holds := (s.pos p).holds.put .fault true
          reason := (s.pos p).qual.reason, lastChange := s.uptime }
      else s.pos j := by
  unfold interruptTrial
  rw [takeTarget_pos, putHolder_pos]
  split
  · simp [setQual_pos, reasonAfter, uptime_eq (setQual_now s p _)]
  · rename_i h; simp [setQual_pos, h]

/-- What a change of a holder leaves in the record of a position whose hold set it changes, before any interruption. -/
def heldAs (h : Holder) (b : Bool) (r : Option Reason) (u : Nat) (x : PosState) : PosState :=
  { x with holds := x.holds.put h b, reason := reasonAfter h b r x.reason, lastChange := u }

/-- What a change that interrupts a trial leaves in the record of its position (R73). -/
def heldInterrupted (h : Holder) (st : Settings) (u : Nat) (x : PosState) : PosState :=
  { x with
    qual := interrupted st x.qual, holds := (x.holds.put h true).put .fault true, reason := x.qual.reason
    lastChange := u }

theorem foldl_putHolder_pos (h : Holder) (b : Bool) (r : Option Reason) (l : List Pos) (hl : l.Nodup) (j : Pos) :
    (l.foldl (fun s p => putHolder h b r p s) s).pos j =
      if j ∈ l then heldAs h b r s.uptime (s.pos j) else s.pos j := by
  induction l generalizing s with
  | nil => rfl
  | cons a l ih =>
    simp only [List.nodup_cons] at hl
    rw [List.foldl_cons, ih _ hl.2, uptime_eq (putHolder_now s h b r a), putHolder_pos]
    by_cases hj : j = a
    · subst hj; simp [hl.1, heldAs]
    · simp [hj]

theorem foldl_interruptTrial_pos (l : List Pos) (hl : l.Nodup) (j : Pos) :
    (l.foldl (fun s p => interruptTrial p s) s).pos j =
      if j ∈ l then
        { s.pos j with
          qual := interrupted s.settings (s.pos j).qual, holds := (s.pos j).holds.put .fault true
          reason := (s.pos j).qual.reason, lastChange := s.uptime }
      else s.pos j := by
  induction l generalizing s with
  | nil => rfl
  | cons a l ih =>
    simp only [List.nodup_cons] at hl
    rw [List.foldl_cons, ih _ hl.2, uptime_eq (acts_interruptTrial s a).now, (acts_interruptTrial s a).settings,
      interruptTrial_pos]
    by_cases hj : j = a
    · subst hj; simp [hl.1]
    · simp [hj]

/-- The record of a position after a hold change: unchanged where the change does not alter its hold set, else with the
holder put, and with the trial interrupted where it is one (R85, R86, R89). -/
theorem changeHolder_pos (h : Holder) (b : Bool) (r : Option Reason) (ps : List Pos) (hps : ps.Nodup) (j : Pos) :
    (changeHolder h b r ps s).pos j =
      if j ∈ ps ∧ alters h b s j = true then
        if interrupts h b s j = true then heldInterrupted h s.settings s.uptime (s.pos j)
        else heldAs h b r s.uptime (s.pos j)
      else s.pos j := by
  have hA : ∀ l : List Pos, Acts s (markLockout h l (emitHolds h b l (takeTargets l
      (l.foldl (fun s p => putHolder h b r p s) s)))) := fun l =>
    (((Acts.foldl _ (fun s p => acts_putHolder s h b r p) _ s).trans (acts_takeTargets _ _)).trans
      (acts_emitHolds _ h b _)).trans (acts_markLockout _ h _)
  unfold changeHolder
  rw [foldl_interruptTrial_pos _ _ ((hps.filter _).filter _), (hA _).settings, uptime_eq (hA _).now]
  simp only [markLockout_pos, emitHolds_pos, takeTargets_pos, foldl_putHolder_pos _ h b r _ (hps.filter _),
    List.mem_filter]
  by_cases h1 : j ∈ ps ∧ alters h b s j = true
  · by_cases h2 : interrupts h b s j = true
    · obtain rfl : b = true := by simp only [interrupts, Bool.and_eq_true] at h2; exact h2.1.1.1
      simp [h1, h2, heldAs, heldInterrupted]
    · simp [h1, h2]
  · simp [h1]

@[simp] theorem requestLocate_pos (j : Pos) : (requestLocate s).pos j = s.pos j := by
  unfold requestLocate
  split
  · rfl
  · rw [startNext_pos]; rfl

@[simp] theorem endWalk_pos (o : WalkOutcome) (f : Option Pos) (j : Pos) : (endWalk o f s).pos j = s.pos j := rfl

@[simp] theorem nextCandidate_pos (j : Pos) : (nextCandidate s).pos j = s.pos j := by
  unfold nextCandidate
  split
  · rw [requestLocate_pos]; rfl
  · rfl

@[simp] theorem reclosingTest_pos (p j : Pos) : (reclosingTest p s).pos j = s.pos j := by
  unfold reclosingTest
  split <;> simp

@[simp] theorem reclosingAfter_pos (h : Holder) (b : Bool) (ps : List Pos) (s₀ : State) (j : Pos) :
    (reclosingAfter h b ps s₀ s).pos j = s.pos j := by
  unfold reclosingAfter
  split
  · split <;> simp
  · rfl

theorem changeHolds_pos (h : Holder) (b : Bool) (r : Option Reason) (ps : List Pos) (j : Pos) :
    (changeHolds h b r ps s).pos j = (changeHolder h b r ps s).pos j := reclosingAfter_pos _ h b ps s j

/-- A batch's formation touches the condition and the gate of a position alone (R110). -/
theorem setMoving_pos (os : List BatchOrder) (j : Pos) :
    ∃ c g, (setMoving os s).pos j = { s.pos j with condition := c, gate := g } := by
  unfold setMoving
  induction os generalizing s with
  | nil => exact ⟨_, _, rfl⟩
  | cons a l ih =>
    obtain ⟨c, g, h⟩ := ih (setGate a.position true (setCondition a.position .moving s))
    rw [List.foldl_cons, h, setGate_pos]
    split
    · subst j; rw [setCondition_pos, if_pos rfl]; exact ⟨c, g, rfl⟩
    · rw [setCondition_pos]
      split
      · subst j; exact ⟨c, g, rfl⟩
      · exact ⟨c, g, rfl⟩

theorem formBatch_pos (j : Pos) : ∃ c g, (formBatch s).pos j = { s.pos j with condition := c, gate := g } := by
  unfold formBatch
  split
  · exact setMoving_pos _ _ j
  · exact ⟨_, _, rfl⟩

theorem formBatchAfter_pos (s₀ : State) (j : Pos) :
    ∃ c g, (formBatchAfter s₀ s).pos j = { s.pos j with condition := c, gate := g } := by
  unfold formBatchAfter
  split
  · exact formBatch_pos s j
  · exact ⟨_, _, rfl⟩

theorem startWriteAfter_pos (s₀ : State) (j : Pos) : (startWriteAfter s₀ s).pos j = s.pos j := by
  unfold startWriteAfter
  split <;> simp

/-- What ends an event touches the condition and the gate of a position alone. -/
theorem conclude_pos (s₀ : State) (j : Pos) :
    ∃ c g, (conclude s₀ s).pos j = { s.pos j with condition := c, gate := g } := by
  unfold conclude
  rw [startWriteAfter_pos]
  exact formBatchAfter_pos s s₀ j

end Sys2Proof.Machine
end

