-- ==== Sys2Proof/Laws/Batches.lean ====
section
/-! SUPPORT. The end of an event, the taking of a batch's positions, and what hold changes and reports leave of the
walk record and the conditions, and the coil matrix while a batch is in flight. -/

namespace Sys2Proof.Machine

theorem appended_same {s t : State} (h : t.drive = s.drive) : appended s t = false := by
  unfold appended
  rw [h]
  simp

/-- An event that changes neither the queue nor the store ends with nothing more. -/
theorem conclude_id {s t : State} (h : t.drive = s.drive) (h2 : t.store = s.store) : conclude s t = t := by
  unfold conclude formBatchAfter
  rw [appended_same h]
  simp [startWriteAfter, h2]

/-- Whether an event has appended an order. -/
theorem appended_iff (s₀ s : State) : appended s₀ s = true ↔ ((∃ o ∈ s.drive.openQ,
    o ∉ s₀.drive.openQ) ∨ ∃ o ∈ s.drive.closeQ, o ∉ s₀.drive.closeQ) := by
  simp [appended]

theorem formBatchAfter_store (s₀ s : State) : (formBatchAfter s₀ s).store = s.store := by
  unfold formBatchAfter formBatch startBatch
  split
  · split
    · suffices h : ∀ os (u : State), (setMoving os u).store = u.store by rw [h]
      intro os; induction os with
      | nil => intro u; rfl
      | cons a t ih => intro u; simp only [setMoving, List.foldl_cons] at ih ⊢; rw [ih]; simp
    · rfl
  · rfl

theorem setMoving_rest (os) (u : State) :
    setMoving os u = { u with positions := (setMoving os u).positions, seq := (setMoving os u).seq, drive := (setMoving os u).drive } := by
  induction os generalizing u with
  | nil => rfl
  | cons a t ih =>
    have e : setMoving (a :: t) u = setMoving t (setGate a.position true (setCondition a.position .moving u)) := rfl
    have := ih (setGate a.position true (setCondition a.position .moving u))
    rw [e]
    rw [this]
    simp

theorem setMoving_drive (os) (u : State) : (setMoving os u).drive = u.drive := by
  induction os generalizing u with
  | nil => rfl
  | cons a t ih =>
    have e : setMoving (a :: t) u = setMoving t (setGate a.position true (setCondition a.position .moving u)) := rfl
    rw [e, ih]; simp

/-- What taking a batch's positions leaves of each position (R110). -/
theorem setMoving_pos_iff (os) (u : State) (p) :
    (setMoving os u).pos p = if ∃ x ∈ os,
    x.position = p then { u.pos p with condition := .moving, gate := true } else u.pos p := by
  induction os generalizing u with
  | nil => simp; rfl
  | cons a t ih =>
    have e : setMoving (a :: t) u = setMoving t (setGate a.position true (setCondition a.position .moving u)) := rfl
    rw [e, ih]
    by_cases hp : p = a.position
    · have hex : ∃ x ∈ a :: t, x.position = p := ⟨a, by simp, hp.symm⟩
      rw [if_pos hex]
      simp [setGate_pos, setCondition_pos, hp]
    · have : (∃ x ∈ a :: t, x.position = p) ↔ ∃ x ∈ t, x.position = p := by
        simp [Ne.symm hp]
      simp only [this]
      simp [setGate_pos, setCondition_pos, hp]

theorem setMoving_seq_idle (os) (u : State) (h : u.seq.running = none) : (setMoving os u).seq = u.seq := by
  induction os generalizing u with
  | nil => rfl
  | cons a t ih =>
    have e : setMoving (a :: t) u = setMoving t (setGate a.position true (setCondition a.position .moving u)) := rfl
    have h2 : (setGate a.position true (setCondition a.position .moving u)).seq = u.seq := by
      show (setCondition _ _ u).seq = _
      unfold setCondition; split; · rfl
      show u.seq.conditionChanged _ = _
      unfold Sequencer.conditionChanged; split <;> [skip; rfl]
      cases hsq : u.seq; simp_all
    rw [e, ih _ (by rw [h2, h]), h2]

/-- The running sweep keeps MOVING for the position whose burst runs, if the batch takes it (R16). -/
theorem setMoving_seq (os) (u : State) (run r) (h : u.seq.running
    = some run) (h2 : u.seq.slots.get run.slot = some r) :
    (setMoving os u).seq = if ∃ x ∈ os, x.position.val = r.entries.length ∧ (u.pos x.position).condition ≠ .moving
      then { u.seq with running := some { run with burstCondition := .moving } } else u.seq := by
  induction os generalizing u run with
  | nil => simp; rfl
  | cons a t ih =>
    have e : setMoving (a :: t) u = setMoving t (setGate a.position true (setCondition a.position .moving u)) := rfl
    have hch : u.seq.channel = some r.entries.length := by simp [Sequencer.channel, h, h2]
    have hp : ∀ q,
        ((setGate a.position true (setCondition a.position .moving u)).pos q).condition
          = if q = a.position then .moving else (u.pos q).condition := by
      intro q; simp only [setGate_pos, setCondition_pos]; split
      · next hq => subst hq; simp
      · next hq => simp
    by_cases hc : a.position.val = r.entries.length ∧ (u.pos a.position).condition ≠ .moving
    · have hs : (setGate a.position true (setCondition a.position .moving u)).seq
        = { u.seq with running := some { run with burstCondition := .moving } } := by
        show (setCondition _ _ u).seq = _
        unfold setCondition; rw [if_neg hc.2]
        show u.seq.conditionChanged _ = _
        unfold Sequencer.conditionChanged; rw [hch, if_pos (by rw [hc.1]), h]; rfl
      rw [e, ih _ { run with burstCondition := .moving } (by rw [hs]) (by rw [hs]; exact h2), hs]
      have hex : ∃ x ∈ a :: t, x.position.val
          = r.entries.length ∧ (u.pos x.position).condition ≠ .moving := ⟨a, by simp, hc⟩
      rw [if_pos hex]
      simp
    · have hs : (setGate a.position true (setCondition a.position .moving u)).seq = u.seq := by
        show (setCondition _ _ u).seq = _
        unfold setCondition; split; · rfl
        next hne =>
        show u.seq.conditionChanged _ = _
        unfold Sequencer.conditionChanged; rw [hch, if_neg]
        intro he; exact hc ⟨by simpa using he.symm, hne⟩
      rw [e, ih _ run (by rw [hs, h]) (by rw [hs]; exact h2), hs]
      congr 1
      simp only [hp, eq_iff_iff]
      constructor
      · rintro ⟨x, hx, h3, h4⟩
        refine ⟨x, by simp [hx], h3, ?_⟩
        split at h4 <;> simp_all
      · rintro ⟨x, hx, h3, h4⟩
        rcases List.mem_cons.mp hx with rfl | hx
        · exact absurd ⟨h3, h4⟩ hc
        · refine ⟨x, hx, h3, ?_⟩
          split
          · next heq => rw [heq] at h3 h4; exact absurd ⟨h3, h4⟩ hc
          · exact h4

theorem foldl_walk {α} {f : State → α → State} (h : ∀ s a, (f s a).walk = s.walk) (l : List α) :
    ∀ s, (l.foldl f s).walk = s.walk := by
  induction l with
  | nil => intro s; rfl
  | cons a t ih => intro s; rw [List.foldl_cons, ih, h]

/-- A hold change by itself leaves the walk record. -/
theorem changeHolder_walk (h b r ps) (s : State) : (changeHolder h b r ps s).walk = s.walk := by
  unfold changeHolder
  rw [foldl_walk (fun s a => by simp [interruptTrial])]
  unfold markLockout emitHolds takeTargets
  have a1 : ∀ x : State, (markRetained x).walk = x.walk := fun x => by simp
  have a2 : ∀ (l : List Pos) (x : State),
      (l.foldl (fun s p => emit .hold (if b then .set else .clear) (some p) (.holder h) s) x).walk = x.walk :=
    fun l x => foldl_walk (fun _ _ => by rfl) l x
  split <;> (try rw [a1]) <;> split <;> (try rw [a2]) <;> rw [foldl_walk (fun s a => by simp)] <;> exact foldl_walk (fun _ _ => by rfl) _ _

theorem modifyQual_eq (p f) (s : State) : modifyQual p f s = setQual p (f (s.pos p).qual) s := rfl

theorem changeHolds_condition (s : State) (h b r l p) (hl : l.Nodup) :
    ((changeHolds h b r l s).pos p).condition = (s.pos p).condition := by
  rw [changeHolds_pos, changeHolder_pos _ _ _ _ _ hl]
  split <;> [(split <;> rfl); rfl]

theorem qualReport_condition (p c) (s : State) : ((qualReport p c s).pos p).condition = (s.pos p).condition := by
  unfold qualReport openReport latch faultReport
  cases c <;> simp only [setResidual_pos, if_true]
  · split
    · split <;> simp [modifyQual_eq, setQual_pos]
    · rfl
  all_goals
    split <;> simp [modifyQual_eq, setQual_pos, latch, changeHolds_condition]

theorem walkReport_condition (p c) (s : State) : ((walkReport p c s).pos p).condition = (s.pos p).condition := by
  unfold walkReport
  split
  · split
    · rfl
    · simp only [skipJammed, nextCandidate_pos]
      show ((changeHolds _ _ _ _ s).pos p).condition = _
      rw [changeHolds_condition _ _ _ _ _ _ (by simp)]
    · simp
    · rfl
  · rfl

/-! ### The coil matrix (R4, R102) -/

/-- The positions that a pulse stands on: those of the orders toward its target, while the pulse is applied (R111). -/
theorem mem_pulsed (b : Batch) (t : Target) (p : Pos) :
    p ∈ b.pulsed t ↔ b.pulse t = .on ∧ ∃ o ∈ b.orders, o.target = t ∧ o.position = p := by
  unfold Batch.pulsed
  by_cases h : b.pulse t = .on
  · simp [h, and_assoc]
  · simp [h]

/-- A group line is energised exactly while a pulse stands on a position of its group (R4, R102). -/
theorem coilLines_group (b : Batch) (g : Fin 4) :
    b.coilLines.group.get g = true
      ↔ ∃ o ∈ b.orders, b.pulse o.target = .on ∧ switchGroup o.position = g.val := by
  have hg : ∀ p, groupLine p = g ↔ switchGroup p = g.val := fun p => by unfold groupLine; rw [Fin.ext_iff]
  simp only [Batch.coilLines, tabulate_get, List.any_append, Bool.or_eq_true, List.any_eq_true, mem_pulsed, beq_iff_eq, hg]
  constructor
  · rintro (⟨x, ⟨hp, o, ho, ht, rfl⟩, hx⟩ | ⟨x, ⟨hp, o, ho, ht, rfl⟩, hx⟩) <;>
      exact ⟨o, ho, by rw [ht]; exact hp, hx⟩
  · rintro ⟨o, ho, hp, hx⟩
    cases ht : o.target
    · rw [ht] at hp; exact .inr ⟨_, ⟨hp, o, ho, ht, rfl⟩, hx⟩
    · rw [ht] at hp; exact .inl ⟨_, ⟨hp, o, ho, ht, rfl⟩, hx⟩

/-- A position line's driver in a direction is energised exactly while that direction's pulse stands on a position of
the line (R4, R102). -/
theorem coilLines_drivers (b : Batch) (k : Fin 6) :
    (b.coilLines.setDriver.get k = true
        ↔ b.pulse .closed = .on ∧ ∃ o ∈ b.orders, o.target = .closed ∧ positionLine o.position = k)
      ∧ (b.coilLines.resetDriver.get k = true
        ↔ b.pulse .opened = .on ∧ ∃ o ∈ b.orders, o.target = .opened ∧ positionLine o.position = k) := by
  simp only [Batch.coilLines, tabulate_get, List.any_eq_true, mem_pulsed, beq_iff_eq]
  constructor <;> constructor
  all_goals first
    | (rintro ⟨x, ⟨hp, o, ho, ht, rfl⟩, hx⟩; exact ⟨hp, o, ho, ht, hx⟩)
    | (rintro ⟨hp, o, ho, ht, hx⟩; exact ⟨_, ⟨hp, o, ho, ht, rfl⟩, hx⟩)

end Sys2Proof.Machine
end

