-- ==== Sys2Proof/Laws/Holders.lean ====
section
/-! SUPPORT. `KeepsHolders s t`: the operations of the Fault Qualifier, the walk and the Switch Drive insert and remove
FAULT and LOCATE alone (R95): PLANT, SITE, LOCKOUT and SAFETY stay as they were at every position. One lemma for each
operation. -/

namespace Sys2Proof.Machine

/-- PLANT, SITE, LOCKOUT and SAFETY of a hold set. -/
def outerHolds (hs : HoldSet) : Bool × Bool × Bool × Bool := (hs.plant, hs.site, hs.lockout, hs.safety)

/-- PLANT, SITE, LOCKOUT and SAFETY stand at every position as they stood. -/
def KeepsHolders (s t : State) : Prop := ∀ p, outerHolds (t.pos p).holds = outerHolds (s.pos p).holds

theorem KeepsHolders.refl (s : State) : KeepsHolders s s := fun _ => rfl

theorem KeepsHolders.trans {s t u : State} (h : KeepsHolders s t) (k : KeepsHolders t u) : KeepsHolders s u :=
  fun p => (k p).trans (h p)

theorem KeepsHolders.foldl {α : Type} (f : State → α → State) (h : ∀ s a, KeepsHolders s (f s a)) (l : List α)
    (s : State) : KeepsHolders s (l.foldl f s) := by
  induction l generalizing s with
  | nil => exact .refl s
  | cons a l ih => exact (h s a).trans (ih _)

/-- A change of drive, walk and sequencer. -/
theorem KeepsHolders.of_eq (s : State) (d : Drive) (w : Walk) (q : Sequencer) :
    KeepsHolders s { s with drive := d, walk := w, seq := q } := fun _ => rfl

theorem keeps_modify (s : State) (p : Pos) (f : PosState → PosState)
    (h : ∀ x, outerHolds (f x).holds = outerHolds x.holds) : KeepsHolders s (s.modify p f) := by
  intro j
  rw [modify_pos]
  split <;> simp_all

/-- FAULT and LOCATE. -/
def Holder.inner : Holder → Bool
  | .fault => true
  | .locate => true
  | _ => false

theorem outerHolds_put {h : Holder} (hh : h.inner = true) (hs : HoldSet) (b : Bool) :
    outerHolds (hs.put h b) = outerHolds hs := by
  cases h <;> first | rfl | simp [Holder.inner] at hh

variable (s : State)

theorem keeps_setQual (p : Pos) (q : QualRecord) : KeepsHolders s (setQual p q s) := keeps_modify s p _ (fun _ => rfl)

theorem keeps_modifyQual (p : Pos) (f : QualRecord → QualRecord) : KeepsHolders s (modifyQual p f s) :=
  keeps_setQual s p _

theorem keeps_setResidual (p : Pos) (n : Nat) : KeepsHolders s (setResidual p n s) :=
  keeps_modify s p _ (fun _ => rfl)

theorem keeps_setGate (p : Pos) (b : Bool) : KeepsHolders s (setGate p b s) := keeps_modify s p _ (fun _ => rfl)

theorem keeps_putHolder {h : Holder} (hh : h.inner = true) (b : Bool) (r : Option Reason) (p : Pos) :
    KeepsHolders s (putHolder h b r p s) := keeps_modify s p _ (fun _ => outerHolds_put hh _ _)

theorem keeps_emit (k : NoticeKind) (e : Edge) (p : Option Pos) (d : Detail) : KeepsHolders s (emit k e p d s) :=
  fun _ => rfl

theorem keeps_removeOrder (p : Pos) : KeepsHolders s (removeOrder p s) := .of_eq _ _ _ _

theorem keeps_appendEntry (e : StepEntry) : KeepsHolders s (appendEntry e s) := .of_eq _ _ _ _

theorem keeps_markRetained : KeepsHolders s (markRetained s) := fun p => by rw [markRetained_pos]

theorem keeps_setCondition (p : Pos) (c : Condition) : KeepsHolders s (setCondition p c s) := by
  unfold setCondition
  split
  · exact .refl s
  · exact (keeps_modify s p (fun x => { x with condition := c }) (fun _ => rfl)).trans
      (.of_eq _ _ _ _)

theorem keeps_takeTarget (p : Pos) : KeepsHolders s (takeTarget p s) := by
  unfold takeTarget
  split
  · split
    · exact keeps_removeOrder s p
    · split
      · exact .refl s
      · exact .of_eq _ _ _ _
  · exact .refl s

theorem keeps_takeTargets (ps : List Pos) : KeepsHolders s (takeTargets ps s) :=
  .foldl _ (fun s p => keeps_takeTarget s p) ps s

theorem keeps_startNext : KeepsHolders s (startNext s) := by
  unfold startNext
  split
  · split
    · exact .of_eq _ _ _ _
    · split
      · exact .of_eq _ _ _ _
      · split
        · exact .of_eq _ _ _ _
        · exact .refl s
  · exact .refl s

theorem keeps_requestLocate : KeepsHolders s (requestLocate s) := by
  unfold requestLocate
  split
  · exact .refl s
  · exact (KeepsHolders.of_eq _ _ _ _).trans (keeps_startNext _)

theorem keeps_endWalk (o : WalkOutcome) (f : Option Pos) : KeepsHolders s (endWalk o f s) :=
  (KeepsHolders.of_eq _ _ _ _).trans (keeps_emit _ _ _ _ _)

theorem keeps_nextCandidate : KeepsHolders s (nextCandidate s) := by
  unfold nextCandidate
  split
  · exact (KeepsHolders.of_eq _ _ _ _).trans (keeps_requestLocate _)
  · exact keeps_endWalk s _ _

theorem keeps_reclosingTest (p : Pos) : KeepsHolders s (reclosingTest p s) := by
  unfold reclosingTest
  split
  · exact keeps_nextCandidate s
  · exact .refl s

theorem keeps_interruptTrial (p : Pos) : KeepsHolders s (interruptTrial p s) :=
  ((keeps_setQual s p _).trans (keeps_putHolder _ rfl _ _ _)).trans (keeps_takeTarget _ p)

theorem keeps_emitHolds (h : Holder) (b : Bool) (ps : List Pos) : KeepsHolders s (emitHolds h b ps s) := by
  unfold emitHolds
  split
  · exact .foldl _ (fun s p => keeps_emit s _ _ _ _) ps s
  · exact .refl s

theorem keeps_markLockout (h : Holder) (ps : List Pos) : KeepsHolders s (markLockout h ps s) := by
  unfold markLockout
  split
  · exact keeps_markRetained s
  · exact .refl s

theorem keeps_changeHolder {h : Holder} (hh : h.inner = true) (b : Bool) (r : Option Reason) (ps : List Pos) :
    KeepsHolders s (changeHolder h b r ps s) :=
  ((((KeepsHolders.foldl _ (fun s p => keeps_putHolder s hh b r p) _ s).trans (keeps_takeTargets _ _)).trans
    (keeps_emitHolds _ h b _)).trans (keeps_markLockout _ h _)).trans (.foldl _ (fun s p => keeps_interruptTrial s p) _ _)

theorem keeps_reclosingAfter (h : Holder) (b : Bool) (ps : List Pos) (s₀ : State) :
    KeepsHolders s (reclosingAfter h b ps s₀ s) := by
  unfold reclosingAfter
  split
  · split
    · exact keeps_reclosingTest s _
    · exact .refl s
  · exact .refl s

theorem keeps_changeHolds {h : Holder} (hh : h.inner = true) (b : Bool) (r : Option Reason) (ps : List Pos) :
    KeepsHolders s (changeHolds h b r ps s) :=
  (keeps_changeHolder s hh b r ps).trans (keeps_reclosingAfter _ h b ps s)

theorem keeps_latch (p : Pos) : KeepsHolders s (latch p s) := (keeps_modifyQual s p _).trans (keeps_markRetained _)

theorem keeps_openReport (p : Pos) : KeepsHolders s (openReport p s) := by
  unfold openReport
  split
  · split
    · exact keeps_modifyQual s p _
    · exact keeps_latch s p
  · exact .refl s

theorem keeps_faultReport (p : Pos) : KeepsHolders s (faultReport p s) := by
  unfold faultReport
  split
  · exact keeps_latch s p
  · exact keeps_latch s p
  · exact (keeps_latch s p).trans (keeps_changeHolds _ rfl _ _ _)
  · exact .refl s

theorem keeps_qualReport (p : Pos) (c : Condition) : KeepsHolders s (qualReport p c s) := by
  cases c
  · exact keeps_setResidual s p 0
  · exact keeps_openReport s p
  · exact .refl s
  · exact keeps_faultReport s p
  · exact keeps_faultReport s p
  · exact keeps_faultReport s p
  · exact .refl s

theorem keeps_skipJammed (p : Pos) : KeepsHolders s (skipJammed p s) :=
  ((keeps_changeHolds s rfl _ _ _).trans (keeps_appendEntry _ _)).trans (keeps_nextCandidate _)

theorem keeps_walkReport (p : Pos) (c : Condition) : KeepsHolders s (walkReport p c s) := by
  unfold walkReport
  split
  · split
    · exact .of_eq _ _ _ _
    · exact keeps_skipJammed s p
    · exact keeps_reclosingTest s p
    · exact .refl s
  · exact .refl s

theorem keeps_handOn (p : Pos) (c : Condition) : KeepsHolders s (handOn p c s) :=
  (keeps_qualReport s p c).trans (keeps_walkReport _ p c)

theorem keeps_conditionReport (p : Pos) (c : Condition) : KeepsHolders s (conditionReport p c s) :=
  (keeps_takeTarget s p).trans (keeps_handOn _ p c)

theorem keeps_conductingOpenReport (p : Pos) : KeepsHolders s (conductingOpenReport p s) := by
  unfold conductingOpenReport
  split
  · exact (((keeps_setCondition s p _).trans (keeps_removeOrder _ p)).trans (keeps_emit _ _ _ _ _)).trans
      (keeps_conditionReport _ p _)
  · exact .refl s

theorem keeps_declaredStanding (p : Pos) : KeepsHolders s (declaredStanding p s) := by
  unfold declaredStanding
  split
  · exact keeps_openReport s p
  · exact keeps_faultReport s p
  · exact keeps_faultReport s p
  · exact keeps_faultReport s p
  · exact .refl s

theorem keeps_insertFault (p : Pos) (c : Abnormal) : KeepsHolders s (insertFault p c s) :=
  ((keeps_changeHolder s rfl _ _ _).trans (keeps_emit _ _ _ _ _)).trans (keeps_reclosingAfter _ _ _ _ _)

theorem keeps_declare (p : Pos) (c : Abnormal) : KeepsHolders s (declare p c s) := by
  unfold declare
  split
  · exact ((keeps_modifyQual s p _).trans (keeps_insertFault _ p c)).trans (keeps_declaredStanding _ p)
  · exact (keeps_modifyQual s p _).trans (keeps_emit _ _ _ _ _)
  · exact .refl s

theorem keeps_countAbnormal (p : Pos) (c : Abnormal) : KeepsHolders s (countAbnormal p c s) := by
  unfold countAbnormal
  split
  · exact (keeps_modifyQual s p _).trans (keeps_declare _ p c)
  · exact keeps_modifyQual s p _

theorem keeps_holdSuspicion (p : Pos) : KeepsHolders s (holdSuspicion p s) := by
  unfold holdSuspicion
  split <;> exact keeps_modifyQual s p _

theorem keeps_recovered (p : Pos) : KeepsHolders s (recovered p s) := (keeps_setQual s p _).trans (keeps_emit _ _ _ _ _)

theorem keeps_confirmTrial (p : Pos) : KeepsHolders s (confirmTrial p s) := by
  unfold confirmTrial
  split
  · exact keeps_recovered s p
  · exact keeps_modifyQual s p _

theorem keeps_confirmRecovery (p : Pos) : KeepsHolders s (confirmRecovery p s) := by
  unfold confirmRecovery
  split
  · exact keeps_recovered s p
  · exact keeps_modifyQual s p _

theorem keeps_recheckExpired (p : Pos) : KeepsHolders s (recheckExpired p s) := by
  unfold recheckExpired
  split
  · exact keeps_latch s p
  · split
    · exact (keeps_modifyQual s p _).trans (keeps_changeHolds _ rfl _ _ _)
    · exact keeps_modifyQual s p _

theorem keeps_waitingSweep (p : Pos) : KeepsHolders s (waitingSweep p s) := by
  unfold waitingSweep
  split
  · split
    · exact keeps_recheckExpired s p
    · exact keeps_modifyQual s p _
  · exact .refl s

theorem keeps_takeClass (p : Pos) (cls : Class) (c : Condition) : KeepsHolders s (takeClass p cls c s) := by
  unfold takeClass
  split
  · exact .refl s
  · split
    · exact keeps_countAbnormal s p _
    · exact keeps_countAbnormal s p _
    · exact keeps_modifyQual s p _
    · exact keeps_holdSuspicion s p
    · exact keeps_waitingSweep s p
    · split
      · exact keeps_countAbnormal s p _
      · exact .refl s
    · split
      · exact keeps_confirmTrial s p
      · exact .refl s
    · exact keeps_confirmRecovery s p
    · exact keeps_modifyQual s p _
    · exact .refl s

theorem keeps_countResidual (p : Pos) : KeepsHolders s (countResidual p s) := by
  unfold countResidual
  split
  · exact (keeps_setResidual s p _).trans (keeps_conductingOpenReport _ p)
  · exact keeps_setResidual s p _

theorem keeps_takeResidual (p : Pos) (cls : Class) (c : Condition) : KeepsHolders s (takeResidual p cls c s) := by
  unfold takeResidual
  split
  · split
    · exact keeps_countResidual s p
    · exact .refl s
  · exact keeps_setResidual s p 0
  · exact .refl s

theorem keeps_takePosition (r : SweepRecord) (p : Pos) : KeepsHolders s (takePosition r p s) :=
  (keeps_takeClass s p _ _).trans (keeps_takeResidual _ p _ _)

theorem keeps_emitCleared (p : Pos) (q : QualRecord) : KeepsHolders s (emitCleared p q s) := by
  unfold emitCleared
  split
  · exact keeps_emit s _ _ _ _
  · exact .refl s

theorem keeps_markUnlatched (q : QualRecord) : KeepsHolders s (markUnlatched q s) := by
  unfold markUnlatched
  split
  · exact keeps_markRetained s
  · exact .refl s

theorem keeps_replaceLocate (p : Pos) : KeepsHolders s (replaceLocate p s) := by
  unfold replaceLocate
  split
  · exact (keeps_modify s p
      (fun x =>
        { x with
          holds := (x.holds.put .locate false).put .fault true, reason := some .ground
          lastChange := if (x.holds.put .locate false).put .fault true = x.holds then x.lastChange else s.uptime })
      (fun _ => rfl)).trans (keeps_takeTarget _ p)
  · exact .refl s

theorem keeps_groundLatch (p : Pos) : KeepsHolders s (groundLatch p s) :=
  (((keeps_modifyQual s p _).trans (keeps_replaceLocate _ p)).trans (keeps_emit _ _ _ _ _)).trans (keeps_markRetained _)

theorem keeps_startWalk (o : WalkOrigin) : KeepsHolders s (startWalk o s) :=
  ((KeepsHolders.of_eq _ _ _ _).trans (keeps_emit _ _ _ _ _)).trans (keeps_nextCandidate _)

theorem keeps_baselineDecision (p : Pos) (l : Nat) : KeepsHolders s (baselineDecision p l s) := by
  unfold baselineDecision
  split
  · exact keeps_endWalk s _ _
  · split
    · exact (keeps_appendEntry s _).trans (keeps_nextCandidate _)
    · exact (KeepsHolders.of_eq _ _ _ _).trans (keeps_changeHolds _ rfl _ _ _)

theorem keeps_measuringDecision (p : Pos) (l : Nat) : KeepsHolders s (measuringDecision p l s) := by
  unfold measuringDecision
  split
  · exact ((keeps_appendEntry s _).trans (keeps_groundLatch _ p)).trans (keeps_endWalk _ _ _)
  · exact (((keeps_appendEntry s _).trans (keeps_changeHolds _ rfl _ _ _)).trans
      (KeepsHolders.of_eq _ _ _ _)).trans (keeps_reclosingTest _ p)

theorem keeps_walkSweep (l : Nat) : KeepsHolders s (walkSweep l s) := by
  unfold walkSweep
  split
  · exact keeps_baselineDecision s _ l
  · exact keeps_measuringDecision s _ l
  · exact .refl s

theorem keeps_releaseCandidate : KeepsHolders s (releaseCandidate s) := by
  unfold releaseCandidate
  split
  · exact keeps_changeHolder s rfl _ _ _
  · exact .refl s

theorem keeps_abandonWalk : KeepsHolders s (abandonWalk s) := by
  unfold abandonWalk
  split
  · exact .refl s
  · exact (keeps_releaseCandidate s).trans (keeps_endWalk _ _ _)

theorem keeps_setMoving (os : List BatchOrder) : KeepsHolders s (setMoving os s) :=
  .foldl _ (fun s _ => (keeps_setCondition s _ _).trans (keeps_setGate _ _ _)) os s

theorem keeps_formBatch : KeepsHolders s (formBatch s) := by
  unfold formBatch
  split
  · exact (KeepsHolders.of_eq _ _ _ _).trans (keeps_setMoving _ _)
  · exact .refl s

theorem keeps_formBatchAfter (s₀ : State) : KeepsHolders s (formBatchAfter s₀ s) := by
  unfold formBatchAfter
  split
  · exact keeps_formBatch s
  · exact .refl s

theorem keeps_emitVerified (p : Pos) (a b : Condition) : KeepsHolders s (emitVerified p a b s) := by
  unfold emitVerified
  split
  · exact keeps_emit s _ _ _ _
  · split
    · exact keeps_emit s _ _ _ _
    · split
      · exact keeps_emit s _ _ _ _
      · exact .refl s

theorem keeps_completeBatch (c : Contacts) (b : Batch) : KeepsHolders s (completeBatch c b s) :=
  (((((KeepsHolders.of_eq _ _ _ _).trans
    (KeepsHolders.foldl _ (fun s _ => (keeps_setCondition s _ _).trans (keeps_setGate _ _ _)) _ _)).trans
    (keeps_takeTargets _ _)).trans (KeepsHolders.foldl _ (fun s _ => keeps_emitVerified s _ _ _) _ _)).trans
    (KeepsHolders.foldl _ (fun s _ => keeps_handOn s _ _) _ _)).trans (keeps_formBatch _)

theorem keeps_removeFault (p : Pos) (old : QualRecord) : KeepsHolders s (removeFault p old s) :=
  (((keeps_changeHolder s rfl _ _ _).trans (keeps_emitCleared _ p old)).trans (keeps_markUnlatched _ old)).trans
    (keeps_reclosingAfter _ _ _ _ _)

theorem keeps_clearFault (p : Pos) : KeepsHolders s (clearFault p s) := by
  unfold clearFault
  split
  · exact .refl s
  · exact (keeps_setQual s p _).trans (keeps_removeFault _ p _)

theorem keeps_clearSwitch (c : Contacts) (p : Pos) : KeepsHolders s (clearSwitch c p s) := by
  unfold clearSwitch
  split
  · exact (((keeps_setCondition s p _).trans (keeps_setResidual _ p 0)).trans (keeps_emit _ _ _ _ _)).trans
      (keeps_conditionReport _ p _)
  · exact .refl s

theorem keeps_clearRecord (p : Pos) : KeepsHolders s (clearRecord p s) :=
  ((keeps_setQual s p _).trans (keeps_setResidual _ p 0)).trans (keeps_emitCleared _ p _)

end Sys2Proof.Machine
end

