-- ==== Sys2Proof/Laws/Operands.lean ====
section
/-! SUPPORT. The operand forms: positions, Codes and masks as their bytes spell them, and the Check bit by bit. -/

namespace Sys2Proof.Machine

theorem ofNumber_byte (p : Pos) : Pos.ofNumber (byte p.number).toNat = some p := by
  fin_cases p <;> rfl

theorem bodyPosition_byte (p : Pos) : bodyPosition [byte p.number] = some p := ofNumber_byte p

theorem ofCode_code (r : Request) : Request.ofCode r.code = some r := by cases r <;> rfl

theorem badLength_iff (l : Byte) : badLength l = true ↔ l.toNat = 0 ∨ 248 < l.toNat := by
  unfold badLength Config.maxLength; simp only [Bool.or_eq_true, decide_eq_true_eq]

theorem bytes2_eq_iff (a b : Byte) (n : BitVec 16) : bytes2 n.toNat = [a, b] ↔ n.toNat = a.toNat * 256 + b.toNat := by
  simp only [bytes2, byte, List.cons.injEq, and_true]
  have := n.isLt
  constructor
  · rintro ⟨rfl, rfl⟩
    simp; omega
  · intro h
    rw [h]
    have ha := a.isLt
    have hb := b.isLt
    constructor <;> apply BitVec.eq_of_toNat_eq <;> simp <;> omega

theorem ofBytes_two (a b : Byte) : ofBytes [a, b] = a.toNat * 256 + b.toNat := by simp [ofBytes]

/-- A position mask is three bytes that name at least one position (R166). -/
theorem isMask_eq (body : List Byte) : isMask body = (body.length == 3 && body != [0, 0, 0]) := by
  unfold isMask
  by_cases h : body.length = 3
  · match body, h with
    | [a, b, c], _ =>
      simp only [List.length_cons, List.length_nil, beq_self_eq_true, Bool.true_and]
      by_cases hz : [a, b, c] = [0, 0, 0]
      · rw [hz]
        have : maskPositions [(0 : Byte), 0, 0] = [] := by
          apply List.filter_eq_nil_iff.2
          intro p _
          simp [ofBytes]
        rw [this]; rfl
      · have : maskPositions [a, b, c] ≠ [] := by
          intro he
          apply hz
          have hall : ∀ p : Pos, (ofBytes [a, b, c]).testBit p.val = false := by
            intro p
            by_contra hc
            have : p ∈ maskPositions [a, b, c] := List.mem_filter.2 ⟨Pos.mem_all p, by simpa using hc⟩
            rw [he] at this; cases this
          have hlt : ofBytes [a, b, c] < 2 ^ 24 := by
            simp [ofBytes]; have := a.isLt; have := b.isLt; have := c.isLt; omega
          have hz : ofBytes [a, b, c] = 0 := by
            apply Nat.eq_of_testBit_eq
            intro i
            rw [Nat.zero_testBit]
            by_cases hi : i < 24
            · exact hall ⟨i, hi⟩
            · exact Nat.testBit_lt_two_pow (lt_of_lt_of_le hlt (Nat.pow_le_pow_right (by omega) (by omega)))
          simp [ofBytes] at hz
          have ha : a = 0 := by apply BitVec.eq_of_toNat_eq; simp; omega
          have hb : b = 0 := by apply BitVec.eq_of_toNat_eq; simp; omega
          have hc : c = 0 := by apply BitVec.eq_of_toNat_eq; simp; omega
          rw [ha, hb, hc]
        have e1 : (maskPositions [a, b, c]).isEmpty = false := by
          cases hm : maskPositions [a, b, c] with
          | nil => exact absurd hm this
          | cons => rfl
        rw [e1]
        simpa using hz
  · rw [beq_eq_false_iff_ne.2 h]; rfl

/-! ### The Check, bit by bit (R159) -/

/-- The CRC-16 register after one bit of a character (R159). -/
def crcBit (r : BitVec 16) (b : Bool) : BitVec 16 := if r.getLsbD 15 = b then r <<< 1 else (r <<< 1) ^^^ 0x1021

theorem crcShift_xor (r : BitVec 16) (c : Byte) :
    crcShift (r ^^^ (c.zeroExtend 16 <<< 8)) = crcBit r (c.getLsbD 7) ^^^ ((c <<< 1).zeroExtend 16 <<< 8) := by
  have hs : (r ^^^ (c.zeroExtend 16 <<< 8)) <<< 1 = (r <<< 1) ^^^ ((c <<< 1).zeroExtend 16 <<< 8) := by
    ext i hi
    interval_cases i <;> simp
  have ht : (c.zeroExtend 16 <<< 8).getLsbD 15 = c.getLsbD 7 := by simp
  unfold crcShift crcBit
  rw [hs, BitVec.getLsbD_xor, ht]
  cases r.getLsbD 15 <;> cases c.getLsbD 7 <;> simp <;> ac_rfl

/-- The CRC-16 register takes a character bit by bit, its most significant bit first (R159). -/
theorem crcByte_bits (r : BitVec 16) (c : Byte) :
    crcByte r c = ([7, 6, 5, 4, 3, 2, 1, 0].map c.getLsbD).foldl crcBit r := by
  unfold crcByte
  simp only [crcShift_xor, List.map_cons, List.map_nil, List.foldl_cons, List.foldl_nil]
  simp

/-- The Check is the register after every bit of its characters, each from its most significant bit (R159). -/
theorem crc16_bits (bs : List Byte) :
    crc16 bs = (bs.flatMap (fun c => [7, 6, 5, 4, 3, 2, 1, 0].map c.getLsbD)).foldl crcBit 0xFFFF := by
  unfold crc16
  rw [List.foldl_flatMap]
  congr
  funext r c
  exact crcByte_bits r c

theorem toIdle_eq_idled (q s) : toIdle q s = idled q s := by cases q <;> rfl

end Sys2Proof.Machine
end

