-- ==== Sys2Proof/Laws/Sweeps.lean ====
section
/-! SUPPORT. The choices of the Sweep Sequencer: what may be reused, which slot a sweep takes, and which record a number
names. -/

namespace Sys2Proof.Machine

theorem pendingSweep_iff (s : State) (q) :
    s.pendingSweep q ≠ 0 ↔ (s.runningOrigin = some (portOrigin q) ∨ q ∈ s.seq.requested) := by
  unfold State.pendingSweep; split
  · simp_all
  · split <;> simp_all

theorem reusable_iff (s : State) (j : Fin 8) :
    s.reusable j = true ↔ ∃ r, s.seq.slots.get j = some r ∧ r.assessed = true ∧ ∀ q,
    r.number ∉ (s.ports.get q).pins := by
  unfold State.reusable
  cases h : s.seq.slots.get j with
  | none => simp
  | some r =>
    simp only [Bool.and_eq_true, Bool.not_eq_true', Option.some.injEq, exists_eq_left']
    refine and_congr_right fun _ => ?_
    constructor
    · intro hp q hq
      have : s.pinned r.number = true := by
        cases q <;> simp [State.pinned, PerPort.get] at hq ⊢ <;> simp [hq]
      rw [this] at hp; cases hp
    · intro hq
      by_contra hp
      have hp : s.pinned r.number = true := by simpa using hp
      simp only [State.pinned, Bool.or_eq_true, List.contains_iff_mem] at hp
      rcases hp with (h | h) | h
      · exact hq .linkP h
      · exact hq .linkS h
      · exact hq .service h

/-- The slot a starting sweep takes (R28). -/
theorem chooseSlot_eq (s : State) (i : Fin 8)
   (h : (s.seq.slots.get i = none ∧ ∀ j < i, ¬ s.seq.slots.get j = none) ∨ ((∀ j,
       ¬ s.seq.slots.get j = none) ∧ s.reusable i = true ∧ ∃ before later,
       s.seq.fillOrder = before ++ i :: later ∧ ∀ j ∈ before, ¬ s.reusable j = true)) :
   s.chooseSlot = some i := by
  unfold State.chooseSlot
  rcases h with ⟨h1, h2⟩ | ⟨h1, h2, b, l, h3, h4⟩
  · have : (List.finRange 8).find? (fun i => (s.seq.slots.get i).isNone) = some i := by
      rw [List.find?_eq_some_iff_append]
      refine ⟨by simp [h1], ?_⟩
      refine ⟨(List.finRange 8).take i.val, (List.finRange 8).drop (i.val + 1), ?_, ?_⟩
      · fin_cases i <;> rfl
      · intro j hj
        have : j < i := by
          rw [List.mem_take_iff_getElem] at hj
          obtain ⟨k, hk, rfl⟩ := hj
          simp at hk ⊢
          rw [Fin.lt_def]; simp; omega
        have := h2 j this
        cases hg : s.seq.slots.get j with
        | none => exact absurd hg this
        | some x => rfl
    rw [this]
  · have : (List.finRange 8).find? (fun i => (s.seq.slots.get i).isNone) = none := by
      rw [List.find?_eq_none]; intro j _; have := h1 j; simpa [Option.isNone_iff_eq_none] using this
    rw [this]
    dsimp only
    rw [List.find?_eq_some_iff_append]
    exact ⟨h2, b, l, h3, fun j hj => by simpa using h4 j hj⟩

/-- A held number is found. -/
theorem find_holds (x : Sequencer) (n : Nat) (h : x.holds n) : ∃ r, x.find n = some r ∧ r.number = n := by
  obtain ⟨i, r, h1, h2, h3⟩ := h
  unfold Sequencer.find
  cases hf : ((List.finRange 8).filterMap x.assessedIn).find? (fun r => r.number == n) with
  | none =>
    rw [List.find?_eq_none] at hf
    have : r ∈ (List.finRange 8).filterMap x.assessedIn :=
        List.mem_filterMap.2 ⟨i, List.mem_finRange i, by simp [Sequencer.assessedIn, h1, h2]⟩
    exact absurd h3 (by simpa using hf r this)
  | some r' =>
    have := List.find?_some hf
    exact ⟨r', rfl, by simpa using this⟩

theorem find_not_holds (x : Sequencer) (n : Nat) (h : ¬ x.holds n) : x.find n = none := by
  unfold Sequencer.find
  rw [List.find?_eq_none]
  intro r hr
  obtain ⟨i, _, hi⟩ := List.mem_filterMap.1 hr
  unfold Sequencer.assessedIn at hi
  obtain ⟨a, b⟩ := Option.filter_eq_some_iff.1 hi
  intro he
  exact h ⟨i, r, a, b, by simpa using he⟩

theorem latest_none (x : Sequencer) (h : ∀ i ∈ x.fillOrder, ∀ r,
    x.slots.get i = some r → r.assessed = false) : x.latest = none := by
  unfold Sequencer.latest
  have : x.fillOrder.filterMap x.assessedIn = [] := by
    rw [List.filterMap_eq_nil_iff]
    intro i hi
    unfold Sequencer.assessedIn
    cases hg : x.slots.get i with
    | none => rfl
    | some r => simp [Option.filter, h i hi r hg]
  rw [this]; rfl

/-- The record filled last among the ASSESSED ones (R30). -/
theorem latest_last (x : Sequencer) {b i l r} (h : x.fillOrder = b ++ i :: l) (h1 : x.slots.get i
    = some r) (h2 : r.assessed = true)
   (h3 : ∀ j ∈ l, ∀ y, x.slots.get j = some y → y.assessed = false) : x.latest = some r := by
  unfold Sequencer.latest
  have e : l.filterMap x.assessedIn = [] := by
    rw [List.filterMap_eq_nil_iff]
    intro j hj
    unfold Sequencer.assessedIn
    cases hg : x.slots.get j with
    | none => rfl
    | some y => simp [Option.filter, h3 j hj y hg]
  have e2 : x.assessedIn i = some r := by simp [Sequencer.assessedIn, h1, h2]
  rw [h, List.filterMap_append, List.filterMap_cons, e2, e]
  simp

/-- What counts toward a port's limit (R30). -/
theorem pinCount_eq (s : State) (q : Port) :
    s.pinCount q = (s.ports.get q).pins.length + (if s.runningOrigin
    = some (portOrigin q) ∨ q ∈ s.seq.requested then 1 else 0) := by
  unfold State.pinCount
  by_cases h : s.pendingSweep q = 0
  · rw [if_pos h, if_neg]
    intro hx; exact (pendingSweep_iff s q).2 hx h
  · rw [if_neg h, if_pos ((pendingSweep_iff s q).1 h)]

end Sys2Proof.Machine
end

