-- ==== Sys2Proof/WellFormed.lean ====
section
/-! DEFINITION. The checks on a command by itself: the bodies that a frame can carry (R158, Table 10-6), the frames
that are discarded, and the Codes that name no request (R162). Every other operand is right by its type. -/

namespace Sys2Proof

/-- Whether a body fits a frame: with its Code it is at most 248 characters (R158). -/
def fitsFrame (body : List Byte) : Bool := decide (body.length < Config.maxLength)

/-- Whether Code and Body of a frame have a Length that R158 lets pass. -/
def fitsLength (payload : List Byte) : Bool := !payload.isEmpty && decide (payload.length ≤ Config.maxLength)

/-- Whether a Length discards its frame (R158). -/
def discardsLength (length : Byte) : Bool := decide (length.toNat = 0) || decide (Config.maxLength < length.toNat)

/-- Whether a command is well formed. -/
def Instr.wellFormed : Instr → Bool
  | .readStatus _ _ body => fitsFrame body
  | .readPosition _ _ body => fitsFrame body
  | .readMap _ _ body => fitsFrame body
  | .readWalk _ _ body => fitsFrame body
  | .requestSweep _ _ body => fitsFrame body
  | .pinSweep _ _ body => fitsFrame body
  | .readSweep _ _ body => fitsFrame body
  | .unpinSweep _ _ body => fitsFrame body
  | .placeHold _ _ body => fitsFrame body
  | .releaseHold _ _ body => fitsFrame body
  | .clearFault _ _ body => fitsFrame body
  | .clearSwitch _ _ body _ => fitsFrame body
  | .startLocate _ _ body => fitsFrame body
  | .fetchNotices _ _ body => fitsFrame body
  | .readSetting _ _ body => fitsFrame body
  | .writeSetting _ _ body _ => fitsFrame body
  | .writeRole _ _ _ _ _ => true
  | .writePeerGroup _ _ _ _ => true
  | .writeExclusionFlag _ _ _ _ => true
  | .writeBlendWeight _ _ _ _ => true
  | .writeRoutineInterval _ _ _ _ => true
  | .writeQualifierSetting _ _ _ _ _ => true
  | .writeLearningEnable _ _ _ _ => true
  | .writeSwitchTiming _ _ _ _ _ => true
  | .writeRestoreDelay _ _ _ _ => true
  | .writeLeakageSetting _ _ _ _ _ => true
  | .writeWalkSetting _ _ _ _ _ => true
  | .writeLinkSetting _ _ _ _ _ _ => true
  | .writeSubscription _ _ _ _ _ => true
  | .saveSettings _ _ body => fitsFrame body
  | .resetRatio _ _ body => fitsFrame body
  | .frameDiscarded _ _ payload _ => fitsLength payload
  | .lengthDiscard _ _ length => discardsLength length
  | .characterGapTimeout _ => true
  | .characterError _ => true
  | .answerSent _ => true
  | .reset _ _ _ => true
  | .loopOpening => true
  | .loopClosing => true
  | .restoreTimerExpiry => true
  | .keyChange _ => true
  | .routineTimerExpiry => true
  | .sweepStart => true
  | .channelBurstComplete _ => true
  | .sweepComplete _ => true
  | .declaration _ _ => true
  | .suspicionAbandoned _ => true
  | .recheckTimerExpiry _ => true
  | .trialSuccess _ => true
  | .reportedRecovery _ => true
  | .residualDebounceReached _ => true
  | .leakageAlarmEntry _ => true
  | .leakageAlarmClear _ => true
  | .settleTimerExpiry => true
  | .batchStart => true
  | .bypassSettleExpiry => true
  | .coilPulseEnd => true
  | .nonOverlapExpiry => true
  | .batchCompletion _ => true
  | .hourlyRatioMark => true
  | .saveWriteStart => true
  | .saveComplete _ => true
  | .retainedWriteStart => true
  | .retainedWriteComplete _ => true
  | .characterReceived _ _ _ => true
  | .unknownRequestCode _ _ code body => (Machine.Request.ofCode code).isNone && fitsFrame body

end Sys2Proof
end

