-- ==== Sys2Proof/Tests/Slice0.lean ====
section
/-! SUPPORT. Tests: the checks of WellFormed, values that the manual works out, single commands on small states, and for
each obligation with hypotheses a state and operands that meet them. -/

namespace Sys2Proof.Tests

open Sys2Proof Sys2Proof.Machine

/-! ### WellFormed refuses an ill-formed command, one for each check -/

theorem test_body_too_long : (Instr.readStatus .linkP 1 (List.replicate 248 0)).wellFormed = false := by decide +kernel

theorem test_longest_body : (Instr.readStatus .linkP 1 (List.replicate 247 0)).wellFormed = true := by decide +kernel

theorem test_frame_without_code : (Instr.frameDiscarded .linkP 1 [] 0).wellFormed = false := by decide

theorem test_frame_too_long : (Instr.frameDiscarded .linkP 1 (List.replicate 249 0) 0).wellFormed = false := by decide +kernel

theorem test_length_passes : (Instr.lengthDiscard .linkP 1 248).wellFormed = false := by decide

theorem test_length_zero_discards : (Instr.lengthDiscard .linkP 1 0).wellFormed = true := by decide

theorem test_known_code : (Instr.unknownRequestCode .linkP 1 0x53 []).wellFormed = false := by decide

theorem test_unknown_code_body_too_long :
    (Instr.unknownRequestCode .linkP 1 0x54 (List.replicate 248 0)).wellFormed = false := by decide +kernel

/-! ### Values the manual works out -/

/-- Table 2-1. -/
theorem test_means :
    stringMean #v[812, 812, 812, 812, 812, 813, 813, 813] = 812
      ∧ stringMean #v[812, 812, 812, 812, 813, 813, 813, 813] = 813
      ∧ stringMean #v[-812, -812, -812, -812, -813, -813, -813, -813] = -813
      ∧ stringMean #v[2047, 2047, 2047, 2040, 2040, 2040, 2040, 2040] = 2043
      ∧ stringMean #v[-2048, -3, -3, -3, -3, -3, -3, -3] = -259
      ∧ leakageMean #v[300, 300, 300, 300, 301, 301, 301, 301] = 301 := by decide

/-- Table 2-1, and the burst with both codes of R17. -/
theorem test_saturation :
    saturationOf #v[2047, 2047, 2047, 2040, 2040, 2040, 2040, 2040] = .plus
      ∧ saturationOf #v[-2048, -3, -3, -3, -3, -3, -3, -3] = .minus
      ∧ saturationOf #v[-2048, 2047, 0, 0, 0, 0, 0, 0] = .plus
      ∧ saturationOf #v[812, 812, 812, 812, 812, 813, 813, 813] = .none := by decide

/-- Table 1-6. -/
theorem test_effective_ratio :
    effectiveRatio 0 740 = 1024 ∧ effectiveRatio 1 740 = 929 ∧ effectiveRatio 2 740 = 835 ∧ effectiveRatio 3 740 = 740 := by
  decide

/-- Table 3-5. -/
theorem test_deviation :
    deviation 17 16 = 63 ∧ deviation 15 16 = -63 ∧ deviation 402 768 = -477 ∧ deviation 80 800 = -900
      ∧ deviation (-20) 600 = -1000 ∧ deviation 1400 650 = 999 := by decide

/-- Table 3-8. -/
theorem test_learning_steps :
    learnedRatio 960 1034 = 962 ∧ learnedRatio 1000 1024 = 1000 ∧ learnedRatio 740 726 = 740
      ∧ learnedRatio 1024 700 = 1014 ∧ learnedRatio 300 256 = 299 ∧ learnedRatio 1280 1280 = 1280 := by decide

/-- Table 3-11: the observed ratios of group 1. -/
theorem test_observed_ratio :
    observedRatio 812 790 = 1053 ∧ observedRatio 798 790 = 1034 ∧ observedRatio 805 790 = 1043
      ∧ observedRatio 560 790 = 726 ∧ observedRatio 790 790 = 1024 := by decide

/-- The drop test of R142: with a baseline of 334 and a drop fraction of 500, 167 confirms and 168 does not. -/
theorem test_drop_test : dropTest 334 167 500 = true ∧ dropTest 334 168 500 = false := by decide

/-- The mask of positions 13 and 14 (the worked case of Chapter 10). -/
theorem test_mask :
    maskBytes (fun p => p == 12 || p == 13) = [0x00, 0x30, 0x00] ∧ maskPositions [0x00, 0x30, 0x00] = [12, 13] := by
  decide

/-- The Check of R159 on the nine characters 1 to 9 is the check value known for its polynomial and start value. -/
theorem test_crc : crc16 [0x31, 0x32, 0x33, 0x34, 0x35, 0x36, 0x37, 0x38, 0x39] = 0x29B1 := by decide +kernel

/-- Sweep numbers and image counts wrap to 1 (R20, R168). -/
theorem test_count_wraps : nextCount 4294967295 = 1 ∧ nextCount 4294967294 = 4294967295 := by decide

/-- A blend weight's code 0x28 takes indexes 1 to 6, a position's codes 1 to 24 (Table 11-1). -/
theorem test_setting_indexes :
    Setting.ofCode 0x28 6 = some (.blendWeight 5) ∧ Setting.ofCode 0x28 7 = none ∧ Setting.ofCode 0x28 0 = none
      ∧ Setting.ofCode 0x20 24 = some (.role 23) ∧ Setting.ofCode 0x20 25 = none ∧ Setting.ofCode 0x01 1 = none
      ∧ Setting.ofCode 0x1E 0 = none := by decide

/-- Numeric values are clamped, enumerated ones are not (R167). -/
theorem test_applied :
    (Setting.number .stationP).applied 0 = some 1 ∧ (Setting.number .stationP).applied 201 = some 200
      ∧ (Setting.speed .p).applied 9601 = none ∧ (Setting.role 0).applied 0 = none
      ∧ (Setting.blendWeight 0).applied 9 = some 3 := by decide

/-- The lower median (Table 3-4, and the worked case of group 1). -/
theorem test_median :
    lowerMedian [812, 798, 805, 560, 790, 402] = some 790 ∧ lowerMedian [5, 4] = none
      ∧ lowerMedian [9, 7, 8] = some 8 := by decide

/-- No word spells a command, since no row has bits. -/
theorem test_no_words : decodeTableWord 8 0 = none ∧ decodeTableWord 16 0xA6 = none := ⟨rfl, rfl⟩

/-! ### Small states -/

/-- ARMED, with every position SWITCHED, CLOSED and held by nothing. -/
def armed : State :=
  { State.reset with
    safety := ⟨.armed, none, true⟩
    positions := Vector.replicate 24 { PosState.afterReset with condition := .closed, holds := HoldSet.empty } }

/-- `armed` with what is kept for position 4 changed. -/
def with4 (f : PosState → PosState) : State := armed.modify 3 f

/-- `armed` with a qualifier record on position 4. -/
def qual4 (q : QualRecord) : State := setQual 3 q armed

/-- `armed` with position 4 in a condition. -/
def cond4 (c : Condition) : State := with4 (fun x => { x with condition := c })

/-- `armed` with another set of settings. -/
def settings (f : Settings → Settings) : State := { armed with settings := f armed.settings }

/-- `armed` with another Sweep Sequencer. -/
def sweeps (f : Sequencer → Sequencer) : State := { armed with seq := f armed.seq }

/-- `armed` with what is kept for Link P changed. -/
def linkP (f : PortState → PortState) : State := { armed with ports := armed.ports.set .linkP (f armed.ports.linkP) }

/-- `armed` with Link P in RECEIVING. -/
def got (l : List Byte) : State := linkP (fun x => { x with receiver := .receiving l })

/-- `armed` with another walk record. -/
def walking (w : Walk) : State := { armed with walk := w }

/-- A walk on position 4 in a state, with a baseline. -/
def walk4 (a : WalkState) (b : Option Nat) : Walk := ⟨some .site, some 0, a, [3], 1, [], none, none, b, none⟩

/-- A position entry of a mean and a recorded condition. -/
def entry (i : Int) (c : Condition) : PosEntry := ⟨i, .none, c, none, none, none⟩

/-- A record being filled, with a number of equal entries. -/
def filling (o : Origin) (n : Nat) : SweepRecord := ⟨1, o, 0, none, false, List.replicate n (entry 600 .closed), []⟩

/-- `armed` with a sweep running in slot 1 on a record. -/
def running (r : SweepRecord) (w : Bool) : State :=
  sweeps (fun x => { x with slots := x.slots.set 0 (some r), fillOrder := [0], running := some ⟨0, .closed, w⟩ })

/-- `armed` with a full ring of ASSESSED records 1 to 8, of which Link P pins the first. -/
def full : State :=
  { linkP (fun x => { x with pins := [1] }) with
    seq := { armed.seq with
      slots := tabulate (fun i => some ⟨i.val + 1, .routine, 0, some 0, true, [], []⟩)
      fillOrder := [0, 1, 2, 3, 4, 5, 6, 7], nextNumber := 9, lastNumber := 8 } }

/-- Whether a command answers a next state with a property. -/
def leads (o : Host.Outcome State Fault Refusal) (f : State → Bool) : Bool :=
  match o with
  | .next t => f t
  | _ => false

/-- A frame on a port whose receiver is IDLE is ready to be taken. -/
theorem ready_idle {q : Port} {station code : Byte} {body : List Byte} {s : State} (h1 : body.length < 248)
    (h2 : (s.ports.get q).receiver = .idle) (h3 : stationAccepted q (s.ports.get q) station = true) :
    Ready q station code body s :=
  ⟨h1, by unfold arrives; rw [h2], h3⟩

/-! ### The worked cases of the manual, command by command -/

/-- A load of the store: position 1 MONITORED in the settings image, position 2 locked out in the retained one. -/
def loaded : State :=
  { State.reset with store :=
    { State.reset.store with
      settingsImage := ⟨some ⟨{ Settings.defaults with role := Settings.defaults.role.set 0 .monitored }, 1⟩, none⟩
      retainedImage :=
        ⟨none, some ⟨⟨(Vector.replicate 24 false).set 1 true, Vector.replicate 24 none, Vector.replicate 24 1024⟩, 1⟩⟩ } }

/-- A reset with the contact of position 3 closed: position 1 is ABSENT, position 2 OPEN under LOCKOUT, and position 3
MOVING toward OPEN, since SAFETY holds it (R97, R106, R128, R172). -/
theorem test_reset :
    leads (exec (.reset 4 true false) loaded) (fun t =>
      (t.pos 0).condition == .absent && (t.pos 1).condition == .opened && (t.pos 1).holds == ⟨false, false, false, true, true, false⟩
        && (t.pos 2).condition == .moving && (t.pos 3).condition == .opened) = true := by decide +kernel

/-- The worked case of Chapter 10: with the key OFF the answer's Status is KEY_OFF; with it ON, OK and the mask of
positions 13 and 14, which LOCKOUT then holds. -/
theorem test_place_hold :
    leads (exec (.placeHold .service 0 [0x00, 0x30, 0x00]) armed)
        (fun t => t.ports.service.answer.take 5 == [0xA6, 0x00, 0x02, 0xA0, 0x04]) = true
      ∧ leads (exec (.placeHold .service 0 [0x00, 0x30, 0x00]) { armed with key := true })
        (fun t => t.ports.service.answer.take 8 == [0xA6, 0x00, 0x05, 0xA0, 0x00, 0x00, 0x30, 0x00]
          && (t.pos 12).holds.lockout && (t.pos 13).holds.lockout && !(t.pos 11).holds.lockout) = true := by
  decide +kernel

/-- An opening batch of positions 13 and 14 follows a PLANT hold, and each contact decides the verdict (R110, R112). -/
theorem test_batch :
    leads (exec (.placeHold .linkP 1 [0x00, 0x30, 0x00]) armed) (fun t =>
      (t.pos 12).condition == .moving && (t.pos 12).gate && leads (exec .bypassSettleExpiry t) (fun u =>
        leads (exec .coilPulseEnd u) (fun v => v.now == 35 && leads (exec (.batchCompletion 0x002000) v) (fun w =>
          w.now == 75 && (w.pos 12).condition == .opened && (w.pos 13).condition == .jammedClosed
            && !(w.pos 13).gate)))) = true := by decide +kernel

/-- While position 14 opens, group line 3 and position line 2 are energised in the reset direction (Table 1-7). -/
theorem test_coil_lines :
    leads (exec (.placeHold .linkP 1 [0x00, 0x20, 0x00]) armed) (fun t => t.coilLines == CoilLines.off
      && leads (exec .bypassSettleExpiry t) (fun u =>
        u.coilLines == ⟨#v[false, false, true, false], #v[false, false, false, false, false, false],
          #v[false, true, false, false, false, false]⟩)) = true := by decide +kernel

/-- A Clear Fault that settles the last candidate of a walk in RECLOSING: FAULT CLEAR, then WALK CLEAR (R152, log entry
28). -/
theorem test_clear_fault_order :
    leads (exec (.clearFault .service 0 [4]) { with4 (fun x =>
        { x with holds := HoldSet.faultAlone, reason := some .ground
                 qual := ⟨.latched, none, 0, 0, some .ground, none, none, 2⟩ }) with
        walk := ⟨some .site, some 0, .reclosing, [3], 1, [], none, none, none, none⟩ })
      (fun t => t.ports.linkS.notices.map (fun n => (n.kind, n.edge)) == [(.fault, .clear), (.walk, .clear)]) = true := by
  decide +kernel

/-- A first routine sweep in the reset state has number 1 and slot 1 (R20, R28). -/
theorem test_first_sweep :
    leads (exec .routineTimerExpiry State.reset) (fun t =>
      t.now == 2000 && (t.seq.slots.get 0).map SweepRecord.number == some 1 && t.seq.nextNumber == 2) = true := by
  decide +kernel

/-- A character that is no Lead is ignored in IDLE (R158). -/
theorem test_noise : leads (exec (.characterReceived .linkS 0xA5 0) armed)
    (fun t => t.ports.linkS.receiver == .idle) = true := by decide +kernel

/-! ### For each obligation, a state and operands that meet its hypotheses -/

theorem witness_StepTakesFront : State.reset.pending = [] := rfl

/-- Roles other than SWITCHED, and SWITCHED with either contact reading; of the closed contacts, positions 3 and 6 in the
lowest group and position 7 in the next. -/
theorem witness_ResetPositions :
    leads (exec (.reset 0x64 true false) loaded) (fun t =>
      t.role 0 != .switched && t.role 1 == .switched && t.role 2 == .switched && t.role 6 == .switched) = true
      ∧ Contacts.closed 0x64 1 = false ∧ Contacts.closed 0x64 2 = true ∧ Contacts.closed 0x64 6 = true
      ∧ (∀ q, Contacts.closed 0x64 q = true → (5 : Pos).val / 6 ≤ q.val / 6)
      ∧ ¬ (6 : Pos).val / 6 ≤ (2 : Pos).val / 6 := by decide +kernel

/-- No closed contact; and closed contacts of two switch groups. -/
theorem witness_ResetRest :
    leads (exec (.reset 0 true false) loaded) (fun t =>
        Pos.all.filter (fun p => decide (t.role p = .switched ∧ Contacts.closed 0 p = true)) == []) = true
      ∧ leads (exec (.reset 0x64 true false) loaded) (fun t =>
        Pos.all.filter (fun p => decide (t.role p = .switched ∧ Contacts.closed 0x64 p = true)) == [2, 5, 6]) = true := by
  decide +kernel

theorem witness_StatusRead : Ready .linkP 1 0x01 [] armed := ready_idle (by decide) rfl rfl

/-- A frame of which all but the last character has come. -/
theorem witness_StatusRead_in_progress : Ready .linkP 1 0x01 [] (got [1, 1, 1, (crc16 [1, 1, 1]).extractLsb' 8 8]) := by
  unfold Ready; decide +kernel

theorem witness_PositionRead : Ready .service 0 0x02 [byte (Pos.number 23)] armed := ready_idle (by decide) rfl rfl

theorem witness_MapAndWalkRead : Ready .linkS 1 0x03 [] armed ∧ Ready .linkS 1 0x31 [] armed :=
  ⟨ready_idle (by decide) rfl rfl, ready_idle (by decide) rfl rfl⟩

theorem witness_SettingRead :
    Ready .service 0 0x50 [0x32, 7] armed ∧ Setting.ofCode (0x32 : Byte).toNat (7 : Byte).toNat = some (.subscription .service .walk)
      ∧ (Setting.number .stationP).applied 0 = some 1 ∧ (Setting.number .stationP).applied 200 = some 200
      ∧ (Setting.peerGroup 23).applied 6 = some 6 ∧ Setting.peerGroup 22 ≠ .peerGroup 23 :=
  ⟨ready_idle (by decide) rfl rfl, by decide⟩

/-- A Code next to the last known one; then requests that fail each check in turn, Link P at both ends of its list and
Link S at its one Code and next to it; and the shortest and longest Body of an answer. -/
theorem witness_ChecksInOrder :
    (([] : List Byte).length < 248 ∧ (List.replicate 247 (0 : Byte)).length < 248)
      ∧ (0x54 : Byte) ∉ ([0x01, 0x02, 0x03, 0x10, 0x11, 0x12, 0x13, 0x20, 0x21, 0x22, 0x23, 0x30, 0x31, 0x40, 0x50, 0x51, 0x52,
        0x53] : List Byte)
      ∧ Ready .linkP 1 0x54 [] armed
      ∧ (requestOf (.clearFault .linkP 1 [1]) = some ⟨.linkP, 1, 0x22, [1], 0⟩ ∧ (0x22 : Byte) = Request.clearFault.code
        ∧ Ready .linkP 1 0x22 [1] armed ∧ (0x22 : Byte) ∈ ([0x22, 0x23, 0x30, 0x51, 0x52, 0x53] : List Byte))
      ∧ (requestOf (.resetRatio .linkP 1 [1]) = some ⟨.linkP, 1, 0x53, [1], 0⟩ ∧ (0x53 : Byte) = Request.resetRatio.code
        ∧ Ready .linkP 1 0x53 [1] armed ∧ (0x53 : Byte) ∈ ([0x22, 0x23, 0x30, 0x51, 0x52, 0x53] : List Byte))
      ∧ (requestOf (.clearSwitch .linkS 1 [1] 0) = some ⟨.linkS, 1, 0x23, [1], 0⟩ ∧ (0x23 : Byte) = Request.clearSwitch.code
        ∧ Ready .linkS 1 0x23 [1] armed)
      ∧ (requestOf (.clearFault .linkS 1 []) = some ⟨.linkS, 1, 0x22, [], 0⟩ ∧ Ready .linkS 1 0x22 [] armed
        ∧ (0x22 : Byte) ≠ 0x23 ∧ Request.clearFault.bodyOk [] = false)
      ∧ (requestOf (.readStatus .linkP 1 [0]) = some ⟨.linkP, 1, 0x01, [0], 0⟩ ∧ Ready .linkP 1 0x01 [0] armed
        ∧ (0x01 : Byte) ∉ ([0x22, 0x23, 0x30, 0x51, 0x52, 0x53] : List Byte) ∧ Request.readStatus.bodyOk [0] = false)
      ∧ (requestOf (.placeHold .service 0 [0, 0, 1]) = some ⟨.service, 0, 0x20, [0, 0, 1], 0⟩
        ∧ Ready .service 0 0x20 [0, 0, 1] armed ∧ (0x20 : Byte) ∈ ([0x20, 0x21, 0x23] : List Byte)
        ∧ Request.placeHold.bodyOk [0, 0, 1] = true ∧ armed.key = false) :=
  ⟨⟨by decide, by decide +kernel⟩, by decide, ready_idle (by decide) rfl rfl,
    ⟨rfl, rfl, ready_idle (by decide) rfl rfl, by decide⟩, ⟨rfl, rfl, ready_idle (by decide) rfl rfl, by decide⟩,
    ⟨rfl, rfl, ready_idle (by decide) rfl rfl⟩, ⟨rfl, ready_idle (by decide) rfl rfl, by decide, rfl⟩,
    ⟨rfl, ready_idle (by decide) rfl rfl, by decide, rfl⟩, ⟨rfl, ready_idle (by decide) rfl rfl, by decide, rfl, rfl⟩⟩

/-- The shortest and the longest Body. -/
theorem witness_CharacterByCharacter :
    (requestOf (.readStatus .linkP 1 []) = some ⟨.linkP, 1, 0x01, [], 0⟩ ∧ (armed.ports.get .linkP).receiver = .idle)
      ∧ requestOf (.readStatus .linkP 1 (List.replicate 247 0)) = some ⟨.linkP, 1, 0x01, List.replicate 247 0, 0⟩
      ∧ (List.replicate 247 (0 : Byte)).length < 248 := ⟨⟨rfl, rfl⟩, rfl, by decide +kernel⟩

/-- Each clause, with the Length characters 0, 1, 248 and 249. -/
theorem witness_CharacterTaken :
    (armed.ports.get .linkP).receiver = .idle ∧ (0xA5 : Byte) ≠ 0xA6
      ∧ ((linkP fun x => { x with receiver := .answering }).ports.get .linkP).receiver = .answering
      ∧ ((got []).ports.get .linkP).receiver = .receiving [] ∧ ((got [1]).ports.get .linkP).receiver = .receiving [1]
      ∧ ((0 : Byte).toNat = 0 ∧ 248 < (249 : Byte).toNat) ∧ (0 < (1 : Byte).toNat ∧ (248 : Byte).toNat ≤ 248)
      ∧ (2 ≤ [(1 : Byte), 1].length ∧ [(1 : Byte), 1].length + 1 ≠ (([1, 1] : List Byte).getD 1 0).toNat + 4)
      ∧ ([(1 : Byte), 1, 1, 0].length + 1 = (([1, 1, 1, 0] : List Byte).getD 1 0).toNat + 4
        ∧ bytes2 (crc16 (([1, 1, 1, 0] : List Byte).take 3)).toNat ≠ ([1, 1, 1, 0] : List Byte).drop 3 ++ [0]) := by
  decide +kernel

/-- A wrong Check, another station, the bad Lengths, each state of a receiver, and a request for another station. -/
theorem witness_ReceiverReturnsToIdle :
    (arrives (armed.ports.get .linkP) (1 :: byte 1 :: [1] ++ bytes2 (0 : Half).toNat) = true
        ∧ crc16 (1 :: byte 1 :: [1]) ≠ (0 : Half))
      ∧ (arrives (armed.ports.get .linkP) (2 :: byte 1 :: [1] ++ bytes2 (crc16 [2, 1, 1]).toNat) = true
        ∧ (2 : Byte).toNat ≠ (armed.ports.get .linkP).station)
      ∧ (248 < (249 : Byte).toNat ∧ arrives (armed.ports.get .linkP) [1, 249] = true)
      ∧ ((got []).ports.get .linkP).receiver = .receiving []
      ∧ ((linkP fun x => { x with receiver := .answering }).ports.get .linkP).receiver = .answering
      ∧ (requestOf (.readStatus .linkP 2 []) = some ⟨.linkP, 2, 0x01, [], 0⟩
        ∧ arrives (armed.ports.get .linkP) (goodFrame 2 (0x01 :: [])) = true) := by decide +kernel

/-- A pending sweep, 2 pins, 1 pin; and a ROUTINE sweep that waits, or none. -/
theorem witness_SweepsQueued :
    Ready .linkP 1 0x10 [] (sweeps fun x => { x with requested := [.linkP] })
      ∧ Ready .linkP 1 0x10 [] (linkP fun x => { x with pins := [1, 2] })
      ∧ Ready .linkP 1 0x10 [] (linkP fun x => { x with pins := [1] })
      ∧ (.linkP ∈ (sweeps fun x => { x with requested := [.linkP] }).seq.requested
        ∧ (linkP fun x => { x with pins := [1, 2] }).runningOrigin ≠ some (portOrigin .linkP)
        ∧ .linkP ∉ (linkP fun x => { x with pins := [1, 2] }).seq.requested
        ∧ 2 ≤ ((linkP fun x => { x with pins := [1, 2] }).ports.get .linkP).pins.length
        ∧ ((linkP fun x => { x with pins := [1] }).ports.get .linkP).pins.length < 2
        ∧ (sweeps fun x => { x with routineWaiting := true }).seq.routineWaiting = true
        ∧ armed.seq.routineWaiting = false ∧ armed.runningOrigin ≠ some .routine) :=
  ⟨ready_idle (by decide) rfl rfl, ready_idle (by decide) rfl rfl, ready_idle (by decide) rfl rfl, by decide⟩

/-- A sweep runs; none waits; a FREE slot; and a full ring, where the record filled earliest is pinned and slot 2 is the
next in the fill order. -/
theorem witness_SweepStarts :
    (running (filling .routine 0) false).seq.running ≠ none
      ∧ (armed.seq.locateWaiting = false ∧ armed.seq.routineWaiting = false ∧ armed.seq.requested = [])
      ∧ (armed.seq.slots.get 0 = none ∧ ∀ j < (0 : Fin 8), ¬ armed.seq.slots.get j = none)
      ∧ ((∀ j, ¬ full.seq.slots.get j = none)
        ∧ (full.seq.slots.get 1 = some ⟨2, .routine, 0, some 0, true, [], []⟩ ∧ ∀ q, 2 ∉ (full.ports.get q).pins)
        ∧ full.seq.fillOrder = [0] ++ 1 :: [2, 3, 4, 5, 6, 7]
        ∧ ¬ ∃ r, full.seq.slots.get 0 = some r ∧ r.assessed = true ∧ ∀ q, r.number ∉ (full.ports.get q).pins)
      ∧ ((sweeps fun x => { x with locateWaiting := true }).seq.locateWaiting = true
        ∧ (sweeps fun x => { x with routineWaiting := true }).seq.locateWaiting = false
        ∧ (sweeps fun x => { x with requested := [.linkS, .linkP] }).seq.requested = .linkS :: [.linkP]) := by
  refine ⟨by decide, by decide, by decide, ⟨by decide, ⟨by decide, fun q => ?_⟩, by decide, ?_⟩, by decide⟩
  · cases q <;> decide
  · rintro ⟨r, h, -, hq⟩
    have : r = ⟨1, .routine, 0, some 0, true, [], []⟩ := Option.some.inj (h.symm.trans (by decide))
    subst this
    exact hq .linkP (by decide)

/-- The first burst and the last. -/
theorem witness_BurstRecorded :
    ((running (filling .routine 0) false).seq.running = some ⟨0, .closed, false⟩
        ∧ (running (filling .routine 0) false).seq.slots.get 0 = some (filling .routine 0)
        ∧ (filling .routine 0).entries.length < 24)
      ∧ (running (filling .site 23) false).seq.slots.get 0 = some (filling .site 23)
        ∧ (filling .site 23).entries.length < 24 := by decide

/-- A sweep of each origin; a leakage mean that is rounded upward at a tie (Table 2-1). -/
theorem witness_SweepCompletes :
    ((running (filling .plant 24) false).seq.running = some ⟨0, .closed, false⟩
        ∧ (running (filling .plant 24) false).seq.slots.get 0 = some (filling .plant 24)
        ∧ (filling .plant 24).entries.length = 24 ∧ (filling .plant 24).origin = portOrigin .linkP)
      ∧ (8 * 301 ≤ ((#v[300, 300, 300, 300, 301, 301, 301, 301] : Samples).toList.map BitVec.toNat).sum + 4
        ∧ ((#v[300, 300, 300, 300, 301, 301, 301, 301] : Samples).toList.map BitVec.toNat).sum + 4 < 8 * 301 + 8)
      ∧ (running (filling .locate 24) true).seq.running = some ⟨0, .closed, true⟩
      ∧ (filling .locate 24).origin = .locate ∧ (filling .routine 24).origin = .routine := by decide

/-- The number of an absent record, of the pinned one, of others with 0 pins left and 1; and the newest record. -/
theorem witness_PinsChanged :
    Ready .linkP 1 0x11 (bytes4 9) full ∧ Ready .linkP 1 0x13 (bytes4 1) full
      ∧ (ofBytes (bytes4 9) ≠ 0 ∧ ¬ full.seq.holds 9)
      ∧ (ofBytes (bytes4 0) = 0 ∧ ∀ i ∈ armed.seq.fillOrder, ∀ r, armed.seq.slots.get i = some r → r.assessed = false)
      ∧ (full.seq.holds 1 ∧ 1 ∈ (full.ports.get .linkP).pins) ∧ (full.seq.holds 2 ∧ 2 ∉ (full.ports.get .linkP).pins)
      ∧ (full.ports.get .linkP).pins.length + 0 < 2
      ∧ 2 ≤ ({ full with ports := full.ports.set .linkP { full.ports.linkP with pins := [3, 4] } }.ports.get .linkP).pins.length
      ∧ (full.seq.fillOrder = [0, 1, 2, 3, 4, 5, 6] ++ 7 :: []
        ∧ full.seq.slots.get 7 = some ⟨8, .routine, 0, some 0, true, [], []⟩) := by
  refine ⟨ready_idle (by decide) rfl rfl, ready_idle (by decide) rfl rfl, ⟨by decide, ?_⟩, ⟨by decide, by decide⟩,
    ⟨⟨0, _, by rfl, rfl, rfl⟩, by decide⟩, ⟨⟨1, _, by rfl, rfl, rfl⟩, by decide⟩, by decide, by decide, by decide⟩
  rintro ⟨i, r, h, -, hn⟩
  have : ∀ j, (full.seq.slots.get j).map SweepRecord.number ≠ some 9 := by decide
  exact this i (by rw [h, Option.map_some, hn])

/-- Parts 1 and 5 of the pinned record, and a number that is not pinned. -/
theorem witness_SweepPartsRead :
    Ready .linkP 1 0x12 (bytes4 1 ++ [1]) full ∧ Ready .linkP 1 0x12 (bytes4 1 ++ [5]) full
      ∧ ((bytes4 1).length = 4 ∧ 1 ≤ (1 : Byte).toNat ∧ (5 : Byte).toNat ≤ 5)
      ∧ ofBytes (bytes4 2) ∉ (full.ports.get .linkP).pins ∧ ofBytes (bytes4 1) ∈ (full.ports.get .linkP).pins
      ∧ full.seq.slots.get 0 = some ⟨1, .routine, 0, some 0, true, [], []⟩
      ∧ ∀ j, (full.seq.slots.get j).map SweepRecord.number = some 1 → j = 0 :=
  ⟨ready_idle (by decide) rfl rfl, ready_idle (by decide) rfl rfl, by decide⟩

/-- A record of 24 entries for the assessment: position 1 at `i` in a condition, the others CLOSED at 600. -/
def record (i : Int) (c : Condition) : SweepRecord :=
  ⟨1, .routine, 0, none, false, entry i c :: List.replicate 23 (entry 600 .closed), []⟩

/-- Each line of Table 3-2, at its boundary values. -/
theorem witness_AbsoluteClasses :
    (record 0 .closed).entries[(0 : Pos).val]? = some (entry 0 .closed)
      ∧ (settings fun x => { x with role := x.role.set 0 .unused }).role 0 = .unused
      ∧ (armed.role 0 ≠ .unused
        ∧ (settings fun x => { x with excluded := x.excluded.set 0 true }).settings.excluded.get 0 = true)
      ∧ (armed.settings.excluded.get 0 = false ∧ (entry 0 .moving).condition = .moving
        ∧ (armed.settings.residualThreshold : Int) < |(entry (-31) .opened).mean|
        ∧ |(entry 30 .conductingOpen).mean| ≤ (armed.settings.residualThreshold : Int)
        ∧ (armed.settings.overThreshold : Int) ≤ (entry 1500 .jammedClosed).mean
        ∧ (entry (-50) .absent).saturation ≠ .plus
        ∧ (entry (-50) .absent).mean ≤ -(armed.settings.reverseThreshold : Int)
        ∧ (entry (-50) .absent).mean < (armed.settings.overThreshold : Int)) := by decide

/-- `armed` with positions 1 to 3 in group 1, and position 4 in group 2. -/
def grouped : State :=
  settings fun x => { x with peerGroup := (((Vector.replicate 24 0).set 0 1 |>.set 1 1).set 2 1).set 3 2 }

/-- A group of 3 eligible members, the least that has a reference; a group of 1; and a group of none. -/
theorem witness_GroupReferences :
    (([0, 1, 2] : List Pos).Nodup ∧ (∀ p, p ∈ ([0, 1, 2] : List Pos) ↔ grouped.settings.peerGroup.get p = (0 : Fin 6).succ)
        ∧ (∀ p, p ∈ ([0, 1, 2] : List Pos) ↔ EligibleMember grouped 0 p ((record 600 .closed).entry p))
        ∧ 3 ≤ ([0, 1, 2] : List Pos).length)
      ∧ (([3] : List Pos).Nodup ∧ (∀ p, p ∈ ([3] : List Pos) ↔ grouped.settings.peerGroup.get p = (1 : Fin 6).succ)
        ∧ (∀ p, p ∈ ([3] : List Pos) ↔ EligibleMember grouped 1 p ((record 600 .closed).entry p))
        ∧ ([3] : List Pos).length < 3) := by
  unfold EligibleMember PendingRelative
  decide

/-- A position of no group, of a group without a reference, of a dim group, and one whose deviation is exactly −900. -/
theorem witness_RelativeClasses :
    PendingRelative grouped 0 (entry 5 .closed) ∧ PendingRelative grouped 4 (entry 600 .closed)
      ∧ ((record 5 .closed).entries[(0 : Pos).val]? = some (entry 5 .closed)
        ∧ grouped.settings.peerGroup.get 4 = 0 ∧ grouped.settings.peerGroup.get 3 = (1 : Fin 6).succ
        ∧ (grouped.assess 0 (record 5 .closed)).groups[(1 : Fin 6).val]? = some ⟨1, 1, none, false⟩
        ∧ grouped.settings.peerGroup.get 0 = (0 : Fin 6).succ
        ∧ (grouped.assess 0 (record 5 .closed)).groups[(0 : Fin 6).val]? = some ⟨3, 3, some 600, false⟩
        ∧ (49 : Int) < (grouped.settings.lightGate : Int) ∧ (grouped.settings.lightGate : Int) ≤ 50)
      ∧ (|3 * (1024 : Int) - (2 * 1024 + (3 - 2) * 1024)| ≤ 1
        ∧ 2048 * (50 : Int) ≤ 2 * (50 * 1024) + 1024 ∧ 2 * (50 * 1024) + 1024 < 2048 * (50 : Int) + 2048
        ∧ (0 : Int) < min 50 2047 ∧ 2 * |(50 : Int) * (-900) - 1000 * (5 - 50)| ≤ 50
        ∧ (2 * |(50 : Int) * (-900) - 1000 * (5 - 50)| = 50 → |(1000 * (5 - 50) : Int)| < |(50 : Int) * (-900)|)) := by
  unfold PendingRelative
  decide

/-- A record whose position 1 was classed NORMAL, in a group with median 790. -/
def classed (c : Machine.Class) : SweepRecord :=
  ⟨1, .routine, 0, some 0, true, [⟨798, .none, .closed, some c, some 757, some 54⟩], [⟨3, 3, some 790, false⟩]⟩

/-- A position that learns (Table 3-11), and one that does not. -/
theorem witness_LearningStep :
    (armed.settings.learningEnable = true ∧ (((classed .normal).entry 0).cls).getD .unused = .normal
        ∧ (armed.pos 0).qual.state = .clear ∧ armed.role 0 ≠ .unused
        ∧ armed.settings.peerGroup.get 0 = (0 : Fin 6).succ
        ∧ (classed .normal).groups[(0 : Fin 6).val]? = some ⟨3, 3, some 790, false⟩
        ∧ 2 * (790 : Int) * 1034 ≤ 2048 * ((classed .normal).entry 0).mean + 790
        ∧ 2048 * ((classed .normal).entry 0).mean + 790 < 2 * (790 : Int) * 1034 + 2 * 790)
      ∧ (((classed (.abnormal .low)).entry 0).cls).getD .unused ≠ .normal := by decide

/-- A qualifier record in each state. -/
def suspect (n h : Nat) : QualRecord := ⟨.suspect, some .low, n, h, none, none, none, 2⟩
def declared (c : Abnormal) (k : Nat) : QualRecord := ⟨.declared, some c, 1, 0, some (.fault c), none, none, k⟩
def waiting (t k : Nat) : QualRecord := ⟨.waiting, some .low, 30, 0, some (.fault .low), some t, none, k⟩
def recheck (n : Nat) : QualRecord := ⟨.recheck, none, 0, 0, some (.fault .low), none, some n, 1⟩
def reported (n : Nat) : QualRecord := ⟨.reported, some .low, 30, 0, some (.fault .low), none, some n, 2⟩
def latched : QualRecord := ⟨.latched, none, 0, 0, some .ground, none, none, 2⟩

/-- Each state and kind of class, at the counts next to the debounce, the hold limit and the confirm count. -/
theorem witness_ClassTaken :
    ((settings fun x => { x with role := x.role.set 3 .unused }).role 3 = .unused ∧ armed.role 3 ≠ .unused)
      ∧ ((armed.pos 3).qual.state = .clear ∧ 1 < armed.settings.debounce .low
        ∧ (settings fun x => { x with debounceLow := 1 }).settings.debounce .low ≤ 1)
      ∧ (((qual4 (suspect 28 0)).pos 3).qual.state = .suspect
        ∧ ((qual4 (suspect 28 0)).pos 3).qual.cls = some .low ∧ 28 + 1 < armed.settings.debounce .low
        ∧ armed.settings.debounce .low ≤ 29 + 1)
      ∧ (((qual4 (recheck 0)).pos 3).qual.state = .recheck ∧ ((qual4 (recheck 0)).pos 3).qual.cls ≠ some .low
        ∧ 1 < armed.settings.debounce .low)
      ∧ (((qual4 (reported 0)).pos 3).qual.state = .reported)
      ∧ (((qual4 (suspect 1 58)).pos 3).qual.holdCount + 1 < armed.settings.holdLimit
        ∧ armed.settings.holdLimit ≤ ((qual4 (suspect 1 59)).pos 3).qual.holdCount + 1)
      ∧ (((qual4 (waiting 2 1)).pos 3).qual.state = .waiting ∧ ((qual4 (waiting 2 1)).pos 3).qual.timer = some 2)
      ∧ (((qual4 (recheck 13)).pos 3).qual.confirm = some 13 ∧ 13 + 1 < armed.settings.confirmCount)
      ∧ (((qual4 (reported 13)).pos 3).qual.confirm = some 13)
      ∧ ((qual4 (declared .low 2)).pos 3).qual.state = .declared ∧ ((qual4 latched).pos 3).qual.state = .latched := by decide

/-- A MONITORED and a SWITCHED position at the debounce; each standing condition; a trial left or none. -/
theorem witness_FaultDeclared :
    ((qual4 (suspect 29 0)).pos 3).qual.state = .suspect
      ∧ (qual4 (suspect 29 0)).settings.debounce .low ≤ ((qual4 (suspect 29 0)).pos 3).qual.count + 1
      ∧ ({ qual4 (suspect 29 0) with settings := { armed.settings with role := armed.settings.role.set 3 .monitored } }).role 3
          = .monitored
      ∧ ((qual4 (suspect 29 0)).role 3 = .switched ∧ ((qual4 (suspect 29 0)).pos 3).condition = .closed
        ∧ (setCondition 3 .opened (qual4 (suspect 29 0)) |>.pos 3).condition = .opened
        ∧ (setCondition 3 .jammedOpen (qual4 (suspect 29 0)) |>.pos 3).condition = .jammedOpen
        ∧ 0 < ((qual4 (suspect 29 0)).pos 3).qual.trials
        ∧ ¬ 0 < ((qual4 { suspect 29 0 with trials := 0 }).pos 3).qual.trials) := by decide

/-- Each record at its last count; a timer at 1 with and without trials, free to reclose and not. -/
theorem witness_RecordsRunOut :
    (armed.role 3 ≠ .unused ∧ ((qual4 (suspect 1 59)).pos 3).qual.state = .suspect
        ∧ (qual4 (suspect 1 59)).settings.holdLimit ≤ ((qual4 (suspect 1 59)).pos 3).qual.holdCount + 1)
      ∧ (((qual4 (recheck 14)).pos 3).qual.state = .recheck ∧ ((qual4 (recheck 14)).pos 3).qual.confirm = some 14
        ∧ armed.settings.confirmCount ≤ 14 + 1 ∧ ((qual4 (recheck 14)).pos 3).qual.reason = some (.fault .low))
      ∧ (((qual4 (reported 14)).pos 3).qual.state = .reported ∧ ((qual4 (reported 14)).pos 3).qual.confirm = some 14
        ∧ ((qual4 (reported 14)).pos 3).qual.reason = some (.fault .low))
      ∧ (((qual4 (waiting 1 0)).pos 3).qual.state = .waiting ∧ ((qual4 (waiting 1 0)).pos 3).qual.timer = some 1
        ∧ ((qual4 (waiting 1 0)).pos 3).qual.trials = 0 ∧ ((qual4 (waiting 1 1)).pos 3).qual.trials ≠ 0)
      ∧ ((((qual4 (waiting 1 1)).modify 3 fun x => { x with condition := .opened, holds := HoldSet.faultAlone }).pos 3).holds
            = ⟨true, false, false, false, false, false⟩
        ∧ (((qual4 (waiting 1 1)).modify 3 fun x => { x with condition := .opened, holds := HoldSet.faultAlone }).pos 3).condition
            = .opened
        ∧ ((qual4 (waiting 1 1)).pos 3).condition ≠ .opened) := by decide

/-- The counter below the debounce, at it, and at its end; OPEN and not OPEN. -/
theorem witness_ResidualCounted :
    (armed.role 3 = .switched ∧ min ((armed.pos 3).residual + 1) 15 < armed.settings.residualDebounce)
      ∧ (armed.settings.residualDebounce ≤ min (((with4 fun x => { x with residual := 1, condition := .opened }).pos 3).residual + 1) 15
        ∧ ((with4 fun x => { x with residual := 1, condition := .opened }).pos 3).condition = .opened)
      ∧ (armed.settings.residualDebounce ≤ min (((with4 fun x => { x with residual := 15 }).pos 3).residual + 1) 15
        ∧ ((with4 fun x => { x with residual := 15 }).pos 3).condition ≠ .opened)
      ∧ (settings fun x => { x with role := x.role.set 3 .monitored }).role 3 ≠ .switched := by decide

/-- Each state of the record, and each state of the walk whose candidate the position is. -/
theorem witness_ReportsHandedOn :
    (((qual4 (declared .low 1)).pos 3).qual.state = .declared
        ∧ ((qual4 (declared .low 1)).pos 3).qual.reason = some (.fault .low) ∧ 0 < ((qual4 (declared .low 1)).pos 3).qual.trials)
      ∧ ((qual4 (declared .over 1)).pos 3).qual.reason = some (.fault .over)
      ∧ ((qual4 (declared .low 0)).pos 3).qual.trials = 0
      ∧ ((qual4 (waiting 5 1)).pos 3).qual.state = .waiting ∧ ((qual4 (recheck 0)).pos 3).qual.state = .recheck
      ∧ (armed.pos 3).qual.state ≠ .declared
      ∧ ((walking (walk4 .opening (some 334))).walk.candidate = some 3
        ∧ (walking (walk4 .opening (some 334))).walk.state = .opening)
      ∧ ((walking (walk4 .reclosing none)).walk.candidate = some 3 ∧ (walking (walk4 .reclosing none)).walk.state = .reclosing
        ∧ settledAgainst ((walking (walk4 .reclosing none)).pos 3).condition
            ((walking (walk4 .reclosing none)).pos 3).holds.target = true
        ∧ settledAgainst .moving .closed = false)
      ∧ armed.walk.candidate ≠ some 3 := by decide

/-- A record in each state. -/
theorem witness_FaultCleared :
    (Ready .linkS 1 0x22 [byte (Pos.number 3)] armed ∧ Ready .service 7 0x22 [byte (Pos.number 3)] (qual4 (suspect 1 0)))
      ∧ ((armed.pos 3).qual.state = .clear ∧ ((qual4 (suspect 1 0)).pos 3).qual.state = .suspect
        ∧ ((qual4 (waiting 5 1)).pos 3).qual.state = .waiting
        ∧ ((qual4 (waiting 5 1)).pos 3).qual.reason = some (.fault .low)
        ∧ ((qual4 latched).pos 3).qual.state = .latched ∧ ((qual4 latched).pos 3).qual.reason = some .ground) :=
  ⟨⟨ready_idle (by decide) rfl rfl, ready_idle (by decide) rfl rfl⟩, by decide⟩

/-- The laws of the drive hold of `armed`. -/
theorem armed_drive : DriveLaws armed := by
  have h : ∀ p, (armed.pos p).condition = .closed ∧ (armed.pos p).holds = HoldSet.empty ∧ (armed.pos p).gate = false
      ∧ armed.role p = .switched := by decide
  have hd : armed.drive = ⟨[], [], none⟩ := rfl
  unfold DriveLaws ordered Drive.moving
  rw [hd]
  refine ⟨fun p => ?_, fun p => ?_, by decide, by decide, fun p => ?_, fun p => ?_, fun p => ?_, fun _ => ⟨rfl, rfl⟩,
    fun b hb => nomatch hb⟩ <;> simp [h p]

/-- A change and none; a change that ends a RECHECK; the list of the positions changed; and the laws of the drive. -/
theorem witness_HoldsChanged :
    (([3, 4] : List Pos).Nodup ∧ ((armed.pos 3).holds.has .plant ≠ true ∧ armed.role 3 = .switched))
      ∧ ((qual4 (recheck 0)).pos 3).holds = HoldSet.empty ∧ ((qual4 (recheck 0)).pos 3).qual.state = .recheck
      ∧ ([3, 4] : List Pos).Sublist [3, 4] ∧ DriveLaws armed :=
  ⟨by decide, by decide, by decide, List.Sublist.refl _, armed_drive⟩

/-- Each port; a position named that is not SWITCHED. -/
theorem witness_HoldsRequested :
    Ready .linkP 1 0x20 [0, 0, 1] armed ∧ Ready .linkS 1 0x21 [128, 0, 0] armed
      ∧ Ready .service 0 0x20 [0, 0, 1] { armed with key := true }
      ∧ (([128, 0, 0] : List Byte).length = 3
        ∧ Pos.all.filter (fun p => (ofBytes [128, 0, 0]).testBit p.val) = [23]
        ∧ (settings fun x => { x with role := x.role.set 23 .unused }).role 23 ≠ .switched ∧ armed.role 23 = .switched) :=
  ⟨ready_idle (by decide) rfl rfl, ready_idle (by decide) rfl rfl, ready_idle (by decide) rfl rfl, by decide⟩

/-- CLOSED and OPEN, held and not, with an order and without; and MOVING. -/
theorem witness_TargetTaken :
    ((armed.pos 3).condition = .closed ∧ (armed.pos 3).holds = HoldSet.empty ∧ armed.drive.openQ = [] ∧ armed.drive.closeQ = [])
      ∧ ((with4 fun x => { x with holds := HoldSet.faultAlone }).pos 3).holds ≠ HoldSet.empty
      ∧ ((cond4 .opened).pos 3).condition = .opened ∧ ((cond4 .moving).pos 3).condition ≠ .closed
      ∧ (⟨3, 0⟩ : Order) ∈ ({ armed with drive := ⟨[⟨3, 0⟩], [], none⟩ } : State).drive.openQ := by decide

/-- A jammed switch and a sound one. -/
theorem witness_SwitchCleared :
    Ready .service 0 0x23 [byte (Pos.number 3)] { armed with key := true }
      ∧ Ready .service 0 0x23 [byte (Pos.number 3)] { cond4 .jammedClosed with key := true }
      ∧ (({ cond4 .jammedClosed with key := true } : State).pos 3).condition = .jammedClosed
      ∧ ({ armed with key := true } : State).key = true ∧ (armed.pos 3).condition = .closed :=
  ⟨ready_idle (by decide) rfl rfl, ready_idle (by decide) rfl rfl, by decide⟩

/-- An order appended or none; a write set waiting while the store is free. -/
theorem witness_EventEnds :
    ((⟨3, 0⟩ : Order) ∈ ({ armed with drive := ⟨[⟨3, 0⟩], [], none⟩ } : State).drive.openQ ∧ (⟨3, 0⟩ : Order) ∉ armed.drive.openQ)
      ∧ (armed.store.writing = none ∧ (markRetained armed).store.waiting = .retained :: []
        ∧ (markRetained armed).store.waiting ≠ armed.store.waiting ∧ (markRetained armed).store.writing = none)
      ∧ (queueSave armed).store.waiting = .save armed.settings :: [] := ⟨by decide, by decide, rfl⟩

/-- `armed` with a number of notices in the queue of Link S. -/
def crowded (n : Nat) : State :=
  { armed with ports := armed.ports.set .linkS (let x := armed.ports.linkS
      { x with notices := List.replicate n ⟨.hold, .set, none, .absent, 0, 0⟩ }) }

/-- A notice kept, one not wanted, and one that finds 32 notices. -/
theorem witness_NoticeOffered :
    (armed.settings.subscription.get .linkS).get .hold = .both ∧ (armed.settings.subscription.get .linkP).get .hold = .off
      ∧ ((crowded 31).ports.get .linkS).notices.length < 32 ∧ 32 ≤ ((crowded 32).ports.get .linkS).notices.length := by decide

/-- A queue of 16 notices and more, of 15, and of none. -/
theorem witness_NoticesFetched :
    Ready .linkS 1 0x40 [] (crowded 17)
      ∧ (∃ taken kept, ((crowded 17).ports.get .linkS).notices = taken ++ kept ∧ taken.length = 16)
      ∧ (∃ taken, ((crowded 15).ports.get .linkS).notices = taken ++ [] ∧ taken.length < 16)
      ∧ (armed.ports.get .linkS).notices = [] ++ [] :=
  ⟨ready_idle (by decide) rfl rfl,
    ⟨List.replicate 16 ⟨.hold, .set, none, .absent, 0, 0⟩, [⟨.hold, .set, none, .absent, 0, 0⟩], rfl, rfl⟩,
    ⟨List.replicate 15 ⟨.hold, .set, none, .absent, 0, 0⟩, rfl, by decide⟩, rfl⟩

/-- A row for a numeric setting whose value is clamped, and one whose value stands; each numeric code that does more. -/
theorem witness_NumbersWritten :
    (requestOf (.writeRoutineInterval .linkS 1 0 61) = some ⟨.linkS, 1, 0x51, [0x01, 0, 0, 61], 0⟩
        ∧ Ready .linkS 1 0x51 [0x01, 0, 0, 61] armed ∧ Port.linkS ≠ .linkP
        ∧ Setting.ofCode (0x01 : Byte).toNat (0 : Byte).toNat = some (.number .routineInterval)
        ∧ max 1 (min ((0 : Byte).toNat * 256 + (61 : Byte).toNat) 60) ≠ armed.settings.number .routineInterval
        ∧ max 1 (min ((0 : Byte).toNat * 256 + (2 : Byte).toNat) 60) = armed.settings.number .routineInterval)
      ∧ (Setting.ofCode (0x0E : Byte).toNat 0 = some (.number .trialCount)
        ∧ Setting.ofCode (0x0D : Byte).toNat 0 = some (.number .recheckInterval)
        ∧ Setting.ofCode (0x1A : Byte).toNat 0 = some (.number .stationP)
        ∧ Setting.ofCode (0x1B : Byte).toNat 0 = some (.number .stationS)
        ∧ Setting.ofCode (0x02 : Byte).toNat 0 = some (.number .lightGate)
        ∧ Number.lightGate ∉ [.routineInterval, .trialCount, .recheckInterval, .stationP, .stationS]) :=
  ⟨⟨rfl, ready_idle (by decide) rfl rfl, by decide, rfl, by decide, by decide⟩, by decide⟩

/-- Each of the settings with a list, at the end of its list and beyond. -/
theorem witness_ChoicesWritten :
    (requestOf (.writePeerGroup .service 0 24 6) = some ⟨.service, 0, 0x51, [0x21, 24, 0, 6], 0⟩
        ∧ Ready .service 0 0x51 [0x21, 24, 0, 6] armed ∧ Port.service ≠ .linkP
        ∧ Setting.ofCode (0x21 : Byte).toNat (24 : Byte).toNat = some (.peerGroup 23)
        ∧ (6 : Fin 7) ≠ armed.settings.peerGroup.get 23 ∧ (armed.settings.peerGroup.get 23).val = 1)
      ∧ (Setting.ofCode 0x22 1 = some (.exclusion 0) ∧ Setting.ofCode 0x28 6 = some (.blendWeight 5)
        ∧ ((3 : Fin 4).val = min 9 3) ∧ Setting.ofCode 0x10 0 = some .learningEnable ∧ Setting.ofCode 0x18 0 = some .autoWalk
        ∧ Setting.ofCode 0x1C 0 = some (.speed .p) ∧ Setting.ofCode 0x1D 0 = some (.speed .s)
        ∧ 38400 = LinkSpeed.baud .baud38400 ∧ LinkSpeed.baud38400 ≠ armed.settings.speedP
        ∧ LinkSpeed.baud19200 = armed.settings.speedS ∧ 9601 ∉ [9600, 19200, 38400]
        ∧ Setting.ofCode 0x31 7 = some (.subscription .linkS .walk) ∧ 3 = Subscription.code .both) :=
  ⟨⟨rfl, ready_idle (by decide) rfl rfl, by decide, rfl, by decide, by decide⟩, by decide⟩

/-- The role that stands; a role change refused; one away from SWITCHED, one to SWITCHED, and one between the others. -/
theorem witness_RoleWritten :
    (Port.linkS ≠ .linkP ∧ Ready .linkS 1 0x51 [0x20, byte (Pos.number 3), 0, byte (Role.code .unused)] (cond4 .opened))
      ∧ (Role.switched = armed.role 3)
      ∧ (Role.unused ≠ armed.role 3 ∧ armed.role 3 = .switched ∧ (armed.pos 3).condition ≠ .opened)
      ∧ ((cond4 .opened).role 3 = .switched ∧ ((cond4 .opened).pos 3).condition = .opened
        ∧ ((cond4 .opened).pos 3).holds.lockout = false ∧ ((cond4 .opened).pos 3).holds.locate = false)
      ∧ ((settings fun x => { x with role := x.role.set 3 .monitored }).role 3 ≠ .switched
        ∧ Role.switched ≠ (settings fun x => { x with role := x.role.set 3 .monitored }).role 3
        ∧ Role.unused ≠ (settings fun x => { x with role := x.role.set 3 .monitored }).role 3) :=
  ⟨⟨by decide, ready_idle (by decide) rfl rfl⟩, by decide⟩

/-- A free store, a save that waits and one being written. -/
theorem witness_SettingsSaved :
    Ready .linkS 1 0x52 [] armed ∧ Ready .linkS 1 0x52 [] (queueSave armed)
      ∧ Waiting.save armed.settings ∈ (queueSave armed).store.waiting
      ∧ ({ armed with store := { armed.store with writing := some (.save .copy1 ⟨armed.settings, 1⟩) } } : State).store.writing
          = some (.save .copy1 ⟨armed.settings, 1⟩)
      ∧ (armed.store.writing = none ∧ armed.store.waiting = []) :=
  ⟨ready_idle (by decide) rfl rfl, ready_idle (by decide) rfl rfl, by simp [queueSave], rfl, rfl, rfl⟩

/-- Counts at the wrap, counts that follow, and counts that do not. -/
theorem witness_NewerCopy :
    let follows := fun m n : Nat => if n = 4294967295 then m = 1 else m = n + 1
    (follows 1 4294967295 ∧ follows 5 4) ∧ (¬ follows 7 4 ∧ ¬ follows 4 7) ∧ (¬ follows 4 4)
      ∧ (⟨none, none⟩ : Image Settings).newer = none
      ∧ ((⟨some ⟨Settings.defaults, 4294967295⟩, none⟩ : Image Settings).newer = some .copy1
        ∧ (⟨some ⟨Settings.defaults, 4294967295⟩, none⟩ : Image Settings).get .copy1 = some ⟨Settings.defaults, 4294967295⟩) :=
  ⟨by decide, by decide, by decide, rfl, rfl, rfl⟩

/-- Each write waiting in a free store, and each under way. -/
theorem witness_StoreWrites :
    (armed.store.writing = none ∧ (queueSave armed).store.waiting = .save armed.settings :: []
        ∧ (markRetained armed).store.waiting = .retained :: [])
      ∧ (armed.store.waiting = [])
      ∧ (({ armed with store := { armed.store with writing := some (.save .copy2 ⟨armed.settings, 1⟩) } } : State).store.writing
          = some (.save .copy2 ⟨armed.settings, 1⟩))
      ∧ (({ armed with store := { armed.store with writing := some (.retained .copy1 ⟨armed.retained, 1⟩) } } : State).store.writing
          = some (.retained .copy1 ⟨armed.retained, 1⟩)) := ⟨⟨rfl, rfl, rfl⟩, rfl, rfl, rfl⟩

theorem witness_RatiosMarkedAndReset : Port.service ≠ .linkP ∧ Ready .service 0 0x53 [byte (Pos.number 23)] armed :=
  ⟨by decide, ready_idle (by decide) rfl rfl⟩

/-- Each state of the Safety Loop unit. -/
theorem witness_LoopEvents :
    armed.safety.state = .armed ∧ ({ armed with safety := ⟨.tripped, none, false⟩ } : State).safety.state = .tripped
      ∧ State.reset.safety.state = .restoring ∧ State.reset.safety.restoreDue = some 30000 := by decide

/-- The candidate of a walk in RECLOSING whose PLANT hold is taken out; no walk; and a walk that runs. -/
theorem witness_WalkReclosesAndEnds :
    let s := { walking (walk4 .reclosing none) with
      positions := armed.positions.set 3 { armed.pos 3 with holds := HoldSet.empty.put .plant true } }
    ((changeHolder .plant false none [3] s).walk = s.walk ∧ s.walk.candidate = some 3
        ∧ (s.pos 3).holds.has .plant ≠ false ∧ s.walk.state = .reclosing
        ∧ settledAgainst ((changeHolder .plant false none [3] s).pos 3).condition
            ((changeHolder .plant false none [3] s).pos 3).holds.target = true)
      ∧ armed.walk.state = .idle ∧ s.walk.state ≠ .idle := by decide +kernel

/-- An OPEN order first; CLOSE orders alone; no order; and a sweep that runs. -/
theorem witness_BatchFormed :
    (({ armed with drive := ⟨[⟨3, 0⟩], [⟨4, 0⟩], none⟩ } : State).drive.openQ.head? = some ⟨3, 0⟩)
      ∧ (({ armed with drive := ⟨[], [⟨4, 0⟩], none⟩ } : State).drive.closeQ.head? = some ⟨4, 0⟩)
      ∧ (armed.drive.openQ = [] ∧ armed.drive.closeQ = [] ∧ armed.drive.batch = none)
      ∧ (running (filling .routine 3) false).seq.slots.get 0 = some (filling .routine 3) := by decide

/-- A batch of one order in each direction at each point of its sequence. -/
def batchAt (settled : Bool) (reset set : Pulse) (nonOverlap : Nat) : Batch :=
  ⟨[⟨3, .opened, .closed⟩, ⟨4, .closed, .opened⟩], 0, 5, 40, nonOverlap, settled, reset, set⟩

def inBatch (b : Batch) : State := { armed with drive := ⟨[], [], some b⟩ }

/-- A batch of position 4 alone in its reset pulse, with the position MOVING and its gate on. -/
def opening : State :=
  { with4 (fun x => { x with condition := .moving, gate := true, holds := HoldSet.faultAlone }) with
    drive := ⟨[], [], some ⟨[⟨3, .opened, .closed⟩], 0, 5, 40, 50, true, .on, .none⟩⟩ }

theorem opening_drive : DriveLaws opening := by
  have h : ∀ p, ((opening.pos p).condition = .closed ↔ p ≠ 3) ∧ ((opening.pos p).condition = .moving ↔ p = 3)
      ∧ (opening.pos p).condition ≠ .opened ∧ (opening.pos p).condition ≠ .absent
      ∧ (p ≠ 3 → (opening.pos p).holds = HoldSet.empty) ∧ ((opening.pos p).gate = true ↔ p = 3)
      ∧ opening.role p = .switched := by decide
  have hd : opening.drive = ⟨[], [], some ⟨[⟨3, .opened, .closed⟩], 0, 5, 40, 50, true, .on, .none⟩⟩ := rfl
  unfold DriveLaws ordered Drive.moving
  rw [hd]
  refine ⟨fun p => ?_, fun p => ?_, by decide, by decide, fun p => ?_, fun p => ?_, fun p => ?_, nofun, ?_⟩
  · simpa using fun hp => (h p).2.2.2.2.1 ((h p).1.1 hp)
  · simpa using fun hp => absurd hp (h p).2.2.1
  · simpa using (h p).2.1
  · simpa using (h p).2.2.2.2.2.1
  · exact ⟨fun hp => absurd hp (h p).2.2.2.1, fun hp => absurd (h p).2.2.2.2.2.2 hp⟩
  · rintro b ⟨⟩
    decide

theorem witness_BatchSteps :
    armed.drive.batch = none
      ∧ (DriveLaws opening ∧ opening.drive.batch = some ⟨[⟨3, .opened, .closed⟩], 0, 5, 40, 50, true, .on, .none⟩
        ∧ opening.coilLines.group.get 0 = true ∧ opening.coilLines.resetDriver.get 3 = true)
      ∧ (inBatch (batchAt false .due .due 50)).drive.batch = some (batchAt false .due .due 50)
      ∧ ((batchAt false .due .due 50).settled = false ∧ (batchAt false .due .due 50).resetPulse = .due)
      ∧ ((batchAt false .none .due 50).resetPulse = .none ∧ (batchAt false .none .due 50).setPulse = .due)
      ∧ ((batchAt true .on .due 30).resetPulse = .on ∧ 30 ≤ (batchAt true .on .due 30).nonOverlap
        ∧ (batchAt true .on .due 30).nonOverlap ≤ 30)
      ∧ ((batchAt true .done .due 31).settled = true ∧ (batchAt true .done .due 31).setPulse = .due)
      ∧ ((batchAt true .done .on 31).setPulse = .on ∧ (batchAt true .done .on 31).resetPulse = .done) :=
  ⟨rfl, ⟨opening_drive, by decide⟩, by decide⟩

theorem witness_BatchCompletes :
    ((inBatch (batchAt true .done .done 50)).drive.batch = some (batchAt true .done .done 50)
        ∧ (batchAt true .done .done 50).settled = true ∧ (batchAt true .done .done 50).resetPulse = .done
        ∧ (batchAt true .done .done 50).setPulse = .done)
      ∧ (batchAt true .none .done 50).resetPulse = .none
      ∧ ∀ x ∈ (batchAt true .done .done 50).orders, ∀ y ∈ (batchAt true .done .done 50).orders, y.position = x.position → y = x := by
  decide

/-- `armed` with the alarm in a state and count. -/
def alarmed (a : AlarmState) (n : Nat) : State := { armed with leakage := ⟨a, n, 0⟩ }

/-- The trip value, the clear value and between them, in each state, at the counts next to the debounce. -/
theorem witness_AlarmMoves :
    armed.settings.leakageTrip ≤ (300 : BitVec 12).toNat
      ∧ ((225 : BitVec 12).toNat < armed.settings.leakageTrip ∧ 4 * (225 : BitVec 12).toNat ≤ 3 * armed.settings.leakageTrip)
      ∧ (¬ armed.settings.leakageTrip ≤ (226 : BitVec 12).toNat ∧ ¬ 4 * (226 : BitVec 12).toNat ≤ 3 * armed.settings.leakageTrip)
      ∧ ((alarmed .rising 1).leakage.state = .rising ∧ 1 + 1 < armed.settings.leakageDebounce
        ∧ armed.settings.leakageDebounce ≤ (alarmed .rising 2).leakage.count + 1 ∧ armed.leakage.state = .quiet)
      ∧ ((alarmed .falling 2).leakage.state = .falling ∧ (alarmed .alarm 0).leakage.state = .alarm)
      ∧ (armed.settings.autoWalk = true ∧ armed.walk.state = .idle ∧ armed.safety.state = .armed) := by decide

/-- A walk that runs, a unit outside ARMED, and a start. -/
theorem witness_WalkStarts :
    Ready .linkS 1 0x30 [] armed ∧ Ready .service 0 0x30 [] State.reset ∧ Ready .linkS 1 0x30 [] (walking (walk4 .baseline none))
      ∧ ((walking (walk4 .baseline none)).walk.state ≠ .idle ∧ State.reset.walk.state = .idle
        ∧ State.reset.safety.state ≠ .armed ∧ armed.walk.state = .idle ∧ armed.safety.state = .armed) :=
  ⟨ready_idle (by decide) rfl rfl, ready_idle (by decide) rfl rfl, ready_idle (by decide) rfl rfl, by decide⟩

/-- A candidate left, none left, and a settle timer; a LOCATE sweep that stands or not. -/
theorem witness_WalkGoesOn :
    ((walking { walk4 .baseline none with index := 0 }).walk.index < (walking { walk4 .baseline none with index := 0 }).walk.candidates.length)
      ∧ ((walking (walk4 .reclosing none)).walk.candidates.length ≤ (walking (walk4 .reclosing none)).walk.index)
      ∧ ((walking { walk4 .settling (some 334) with settleDue := some 3000 }).walk.state = .settling
        ∧ (walking { walk4 .settling (some 334) with settleDue := some 3000 }).walk.settleDue = some 3000)
      ∧ (sweeps fun x => { x with locateWaiting := true }).seq.locateWaiting = true
      ∧ (running (filling .locate 0) true).seq.running = some ⟨0, .closed, true⟩
      ∧ (armed.seq.locateWaiting = false ∧ armed.seq.running = none) := by decide

/-- A baseline at the clear value and above it; a candidate that is held; the drop test at its boundary,
with FAULT held too. -/
theorem witness_WalkDecides :
    ((walking (walk4 .baseline none)).walk.candidate = some 3 ∧ (walking (walk4 .baseline none)).walk.state = .baseline
        ∧ 4 * 225 ≤ 3 * armed.settings.leakageTrip ∧ 3 * armed.settings.leakageTrip < 4 * 226
        ∧ ((with4 fun x => { x with holds := HoldSet.faultAlone }).pos 3).holds ≠ HoldSet.empty
        ∧ (armed.pos 3).condition = .closed ∧ (armed.pos 3).holds = HoldSet.empty)
      ∧ ((walking (walk4 .measuring (some 334))).walk.state = .measuring
        ∧ (walking (walk4 .measuring (some 334))).walk.baseline = some 334 ∧ armed.settings.dropFraction ≤ 1000
        ∧ 1000 * 167 ≤ 334 * (1000 - armed.settings.dropFraction) ∧ 334 * (1000 - armed.settings.dropFraction) < 1000 * 168)
      ∧ (((with4 fun x => { x with holds := HoldSet.empty.put .locate true }).pos 3).holds.locate = true
        ∧ ((with4 fun x => { x with holds := HoldSet.faultAlone.put .locate true }).pos 3).holds.locate = true
        ∧ ((with4 fun x => { x with holds := HoldSet.faultAlone.put .locate true }).pos 3).holds.fault = true
        ∧ armed.role 3 = .switched) := by decide

/-! ### The laws hold of a state other than reset, so the invariants' hypotheses can be met -/

theorem armed_positions : ∀ p, armed.pos p = { PosState.afterReset with condition := .closed, holds := HoldSet.empty } := by
  intro p
  simp only [State.pos, armed, get_replicate]

theorem armed_role : ∀ p, armed.role p = .switched := by
  intro p
  simp only [State.role, armed, State.reset, Settings.defaults, get_replicate]

theorem witness_IsolationLawsKept : IsolationLaws armed ∧ ∃ t, exec .loopOpening armed = .next t :=
  ⟨⟨fun p h => absurd (armed_role p) h,
    fun p => by rw [armed_positions p, armed_role p]; decide, fun p => by rw [armed_positions p]; decide⟩, _, rfl⟩

theorem witness_RecordsFormedKept : RecordsFormed armed ∧ ∃ t, exec .loopOpening armed = .next t :=
  ⟨fun p => by rw [armed_positions p]; decide, _, rfl⟩

theorem witness_SafetyHeldKept : SafetyHeld armed ∧ ∃ t, exec .loopOpening armed = .next t :=
  ⟨fun p => by rw [armed_positions p]; rfl, _, rfl⟩

theorem witness_DriveLawsKept : DriveLaws armed ∧ ∃ t, exec .loopOpening armed = .next t := ⟨armed_drive, _, rfl⟩

theorem witness_RingLawsKept : RingLaws armed ∧ ∃ t, exec .routineTimerExpiry armed = .next t := by
  refine ⟨⟨fun q => ?_, fun q => ?_, fun i => ?_, fun i => ?_, by decide⟩, _, rfl⟩
  · cases q <;> decide
  · cases q <;> exact fun n hn => nomatch hn
  · revert i; decide
  · revert i; decide

theorem witness_WalkLawsKept :
    IsolationLaws armed ∧ DriveLaws armed ∧ WalkLaws armed ∧ ∃ t, exec (.startLocate .linkS 1 []) armed = .next t :=
  ⟨witness_IsolationLawsKept.1, armed_drive, ⟨fun h => absurd rfl h, fun p => by
    rw [armed_positions p]; simp [PosState.afterReset, HoldSet.empty, armed, State.reset, Walk.afterReset, WalkState.locating],
    fun _ => rfl⟩, _, rfl⟩

theorem witness_RangesAndScheduleKept :
    NoticesBounded armed ∧ RatiosInRange armed ∧ SettingsInRange armed ∧ StoreLaws armed
      ∧ ∃ t, exec .hourlyRatioMark armed = .next t := by
  refine ⟨fun q => by cases q <;> decide, ⟨fun p => by rw [armed_positions p]; rfl, fun p => ?_, fun k c h => ?_, fun k c h => ?_⟩,
    ⟨fun n => by cases n <;> decide, fun k c h => ?_, fun k c h => ?_, fun st h => ?_⟩,
    ⟨fun _ => rfl, by decide, by decide⟩, _, rfl⟩
  · simp only [armed, State.reset, get_replicate]; rfl
  · cases k <;> exact nomatch h
  · exact nomatch h
  · cases k <;> exact nomatch h
  · exact nomatch h
  · exact nomatch h

/-- `armed` with the key ON and LOCKOUT on position 4, which stands OPEN. -/
def lockedOut : State :=
  { with4 (fun x => { x with condition := .opened, holds := HoldSet.empty.put .lockout true }) with key := true }

/-- The frame of a Release Hold that names position 4, less its last character. -/
def releaseBegun : List Byte := (goodFrame 0 (0x21 :: [0, 0, 8])).dropLast

/-- `lockedOut` with that frame being received at the Service Port. -/
def releasing : State :=
  { lockedOut with ports := lockedOut.ports.set .service { lockedOut.ports.service with receiver := .receiving releaseBegun } }

theorem lockedOut_pos : ∀ p, lockedOut.pos p = if p = 3 then
      { PosState.afterReset with condition := .opened, holds := HoldSet.empty.put .lockout true }
    else { PosState.afterReset with condition := .closed, holds := HoldSet.empty } := by
  intro p
  show (armed.modify 3 (fun x => { x with condition := .opened, holds := HoldSet.empty.put .lockout true })).pos p = _
  rw [modify_pos, armed_positions, armed_positions]

theorem lockedOut_laws : IsolationLaws lockedOut :=
  ⟨fun p hp => absurd (armed_role p) hp,
    fun p => by rw [lockedOut_pos p, show lockedOut.role p = .switched from armed_role p]; split <;> decide,
    fun p => by rw [lockedOut_pos p]; split <;> decide⟩

/-- By the row, and by the last character of its frame. -/
theorem witness_LockoutEnds :
    (IsolationLaws lockedOut ∧ (lockedOut.pos 3).holds.lockout = true ∧ lockedOut.key = true
        ∧ leads (exec (.releaseHold .service 0 [0, 0, 8]) lockedOut) (fun t => !(t.pos 3).holds.lockout) = true
        ∧ (ofBytes [0, 0, 8]).testBit (3 : Pos).val = true)
      ∧ (IsolationLaws releasing ∧ (releasing.pos 3).holds.lockout = true
        ∧ leads (exec (.characterReceived .service (goodFrame 0 (0x21 :: [0, 0, 8]))[7]! 0) releasing)
            (fun t => !(t.pos 3).holds.lockout) = true
        ∧ releasing.ports.service.receiver = .receiving releaseBegun
        ∧ releaseBegun ++ [(goodFrame 0 (0x21 :: [0, 0, 8]))[7]!] = goodFrame 0 (0x21 :: [0, 0, 8])) :=
  ⟨⟨lockedOut_laws, by decide, rfl, by decide +kernel, by decide⟩, lockedOut_laws, by decide, by decide +kernel, rfl,
    by decide +kernel⟩

theorem witness_StateAfterReset :
    armed.pending = [] ∧ armed.store.settingsImage = ⟨none, none⟩ ∧ armed.store.retainedImage = ⟨none, none⟩ :=
  ⟨rfl, rfl, rfl⟩

end Sys2Proof.Tests
end

section
/-! PROOFS. The forming of a batch (R4, R110): what `formBatch` does on an empty and on a standing queue. -/

namespace Sys2Proof.Machine

theorem Drive.head_eq_some (d : Drive) (o : Order) :
    d.head = some o ↔ d.openQ.head? = some o ∨ (d.openQ = [] ∧ d.closeQ.head? = some o) := by
  unfold Drive.head
  cases d.openQ with
  | nil => simp
  | cons a l => simp

theorem Drive.head_eq_none (d : Drive) : d.head = none ↔ d.openQ = [] ∧ d.closeQ = [] := by
  unfold Drive.head
  cases d.openQ with
  | nil => simp
  | cons a l => simp

/-- With a batch in flight, or an empty queue, no batch is formed (R110). -/
theorem formBatch_none {s : State} (h : s.drive.batch ≠ none ∨ s.drive.head = none) : formBatch s = s := by
  unfold formBatch
  split
  · rename_i hb ho
    rcases h with h | h
    · exact absurd hb h
    · rw [ho] at h; cases h
  · rfl

/-- Else the head of the queue fixes the switch group (R110). -/
theorem formBatch_head {s : State} {o : Order} (hb : s.drive.batch = none) (ho : s.drive.head = some o) :
    formBatch s = startBatch (switchGroup o.position) s := by
  unfold formBatch
  rw [hb, ho]

theorem pulseFor_opened (g : Nat) (s : State) :
    pulseFor .opened (takenOrders g s) = if s.drive.openQ.filter (inGroup g) = [] then .none else .due := by
  unfold pulseFor takenOrders
  cases s.drive.openQ.filter (inGroup g) with
  | nil => simp
  | cons a l => simp

theorem pulseFor_closed (g : Nat) (s : State) :
    pulseFor .closed (takenOrders g s) = if s.drive.closeQ.filter (inGroup g) = [] then .none else .due := by
  unfold pulseFor takenOrders
  cases s.drive.closeQ.filter (inGroup g) with
  | nil => simp
  | cons a l => simp

/-- The drive after a batch of a switch group has been taken out of the queue (R110, R111). -/
theorem startBatch_drive (g : Nat) (s : State) :
    (startBatch g s).drive =
      { openQ := s.drive.openQ.filter (fun o => !inGroup g o)
        closeQ := s.drive.closeQ.filter (fun o => !inGroup g o)
        batch := some (newBatch (takenOrders g s) s) } := setMoving_drive _ _

/-- The positions of a starting batch become MOVING with their gates on; the others stay as they are (R110, R111). -/
theorem startBatch_pos (g : Nat) (s : State) (p : Pos) :
    (startBatch g s).pos p =
      if ∃ x ∈ takenOrders g s, x.position = p then { s.pos p with condition := .moving, gate := true }
      else s.pos p := setMoving_pos_iff _ _ p

/-- A starting batch touches positions, sequencer and drive alone. -/
theorem startBatch_rest (g : Nat) (s : State) :
    startBatch g s =
      { s with
        positions := (startBatch g s).positions, seq := (startBatch g s).seq, drive := (startBatch g s).drive } :=
  setMoving_rest _ _

/-- Settles O45: BATCH_START is `formBatch`, whose head fixes the switch group, and `setMoving` takes the group's
positions. -/
theorem batchFormed : Obligations.BatchFormed := by
  intro s
  refine ⟨fun h => congrArg _ (formBatch_none (h.imp id (Drive.head_eq_none _).2)), fun o hb ho => ?_⟩
  have hgroup : (fun x : Order => decide (x.position.val / 6 = o.position.val / 6))
      = inGroup (switchGroup o.position) := rfl
  have hrest : (fun x : Order => decide (¬ x.position.val / 6 = o.position.val / 6))
      = fun x => !inGroup (switchGroup o.position) x := by
    funext x; rw [decide_not]; rfl
  simp only [hgroup, hrest]
  refine ⟨startBatch (switchGroup o.position) s, ?_, startBatch_rest _ s, ?_, fun p hp => ?_, fun p hp => ?_,
    fun run hrun r hr => setMoving_seq _ _ run r hrun hr, fun hidle => setMoving_seq_idle _ _ hidle⟩
  · exact congrArg _ (formBatch_head hb ((Drive.head_eq_some _ o).2 ho))
  · rw [startBatch_drive]
    unfold newBatch
    rw [pulseFor_opened, pulseFor_closed]
    rfl
  · rw [startBatch_pos]; exact if_pos hp
  · rw [startBatch_pos]; exact if_neg hp

end Sys2Proof.Machine
end

section
/-! PROOFS. The laws of the Switch Drive across the forming of a batch (R103, R105, R107, R110), and the start-up
sequence (R172). -/

namespace Sys2Proof.Machine

/-! ### The orders a batch takes -/

theorem ordered_filter_inGroup (q : List Order) (g : Nat) (p : Pos) :
    ordered (q.filter (inGroup g)) p ↔ ordered q p ∧ switchGroup p = g := by
  unfold ordered
  constructor
  · rintro ⟨o, ho, rfl⟩
    obtain ⟨hq, hg⟩ := List.mem_filter.1 ho
    exact ⟨⟨o, hq, rfl⟩, by simpa [inGroup] using hg⟩
  · rintro ⟨⟨o, ho, rfl⟩, hg⟩
    exact ⟨o, List.mem_filter.2 ⟨ho, by simpa [inGroup] using hg⟩, rfl⟩

theorem ordered_filter_rest (q : List Order) (g : Nat) (p : Pos) :
    ordered (q.filter (fun o => !inGroup g o)) p ↔ ordered q p ∧ switchGroup p ≠ g := by
  unfold ordered
  constructor
  · rintro ⟨o, ho, rfl⟩
    obtain ⟨hq, hg⟩ := List.mem_filter.1 ho
    exact ⟨⟨o, hq, rfl⟩, by simpa [inGroup] using hg⟩
  · rintro ⟨⟨o, ho, rfl⟩, hg⟩
    exact ⟨o, List.mem_filter.2 ⟨ho, by simpa [inGroup] using hg⟩, rfl⟩

theorem takenOrders_positions (g : Nat) (s : State) :
    (takenOrders g s).map BatchOrder.position =
      (s.drive.openQ.filter (inGroup g)).map Order.position
        ++ (s.drive.closeQ.filter (inGroup g)).map Order.position := by
  simp [takenOrders, Function.comp_def]

theorem mem_map_position (q : List Order) (p : Pos) : p ∈ q.map Order.position ↔ ordered q p := List.mem_map

/-- The positions of a starting batch: those of the group with an order in either section (R110). -/
theorem mem_takenOrders_positions (g : Nat) (s : State) (p : Pos) :
    p ∈ (takenOrders g s).map BatchOrder.position ↔
      (ordered s.drive.openQ p ∨ ordered s.drive.closeQ p) ∧ switchGroup p = g := by
  rw [takenOrders_positions, List.mem_append, mem_map_position, mem_map_position, ordered_filter_inGroup,
    ordered_filter_inGroup, or_and_right]

theorem startBatch_pos_taken {g : Nat} {s : State} {p : Pos}
    (h : p ∈ (takenOrders g s).map BatchOrder.position) :
    (startBatch g s).pos p = { s.pos p with condition := .moving, gate := true } := by
  rw [startBatch_pos, if_pos (List.mem_map.1 h)]

theorem startBatch_pos_left {g : Nat} {s : State} {p : Pos}
    (h : p ∉ (takenOrders g s).map BatchOrder.position) : (startBatch g s).pos p = s.pos p := by
  rw [startBatch_pos, if_neg (fun hx => h (List.mem_map.2 hx))]

/-- A position with no order is left by the forming of a batch as it is. -/
theorem formBatch_pos_unordered {s : State} {p : Pos} (ho : ¬ ordered s.drive.openQ p)
    (hc : ¬ ordered s.drive.closeQ p) : (formBatch s).pos p = s.pos p := by
  unfold formBatch
  split
  · exact startBatch_pos_left (fun h => ((mem_takenOrders_positions ..).1 h).1.elim ho hc)
  · rfl

/-! ### The laws of the Switch Drive, with orders that may wait -/

/-- The laws of the Switch Drive but the one that no order waits while no batch is in flight: what holds in the middle of
an event, before its batch is formed (R110). -/
structure QueueLaws (s : State) : Prop where
  opens : ∀ p, ordered s.drive.openQ p ↔ (s.pos p).condition = .closed ∧ (s.pos p).holds ≠ HoldSet.empty
  closes : ∀ p, ordered s.drive.closeQ p ↔ (s.pos p).condition = .opened ∧ (s.pos p).holds = HoldSet.empty
  opens_nodup : (s.drive.openQ.map Order.position).Nodup
  closes_nodup : (s.drive.closeQ.map Order.position).Nodup
  moving : ∀ p, (s.pos p).condition = .moving ↔ p ∈ s.drive.moving
  gates : ∀ p, (s.pos p).gate = true ↔ p ∈ s.drive.moving
  absent : ∀ p, (s.pos p).condition = .absent ↔ s.role p ≠ .switched
  batch : ∀ b, s.drive.batch = some b → b.orders ≠ [] ∧ (b.orders.map BatchOrder.position).Nodup
    ∧ ∀ x ∈ b.orders, ∀ y ∈ b.orders, switchGroup x.position = switchGroup y.position

theorem driveLaws_iff (s : State) :
    DriveLaws s ↔ QueueLaws s ∧ (s.drive.batch = none → s.drive.openQ = [] ∧ s.drive.closeQ = []) := by
  constructor
  · rintro ⟨h1, h2, h3, h4, h5, h6, h7, h8, h9⟩
    exact ⟨⟨h1, h2, h3, h4, h5, h6, h7, h9⟩, h8⟩
  · rintro ⟨⟨h1, h2, h3, h4, h5, h6, h7, h9⟩, h8⟩
    exact ⟨h1, h2, h3, h4, h5, h6, h7, h8, h9⟩

/-- The batch of a group with an order holds at least one order, one for a position, all of the group (R4, R110). -/
theorem QueueLaws.takenOrders_formed {s : State} (h : QueueLaws s) {o : Order} (ho : s.drive.head = some o) :
    takenOrders (switchGroup o.position) s ≠ []
      ∧ ((takenOrders (switchGroup o.position) s).map BatchOrder.position).Nodup
      ∧ ∀ x ∈ takenOrders (switchGroup o.position) s, ∀ y ∈ takenOrders (switchGroup o.position) s,
        switchGroup x.position = switchGroup y.position := by
  have hgroup : ∀ x ∈ takenOrders (switchGroup o.position) s,
      switchGroup x.position = switchGroup o.position := fun x hx =>
    ((mem_takenOrders_positions _ s x.position).1 (List.mem_map_of_mem hx)).2
  refine ⟨fun hnil => ?_, ?_, fun x hx y hy => (hgroup x hx).trans (hgroup y hy).symm⟩
  · have hordered : ordered s.drive.openQ o.position ∨ ordered s.drive.closeQ o.position :=
      ((Drive.head_eq_some _ o).1 ho).imp (fun h => ⟨o, List.mem_of_mem_head? h, rfl⟩)
        (fun h => ⟨o, List.mem_of_mem_head? h.2, rfl⟩)
    have hmem := (mem_takenOrders_positions (switchGroup o.position) s o.position).2 ⟨hordered, rfl⟩
    rw [hnil] at hmem
    cases hmem
  · rw [takenOrders_positions]
    refine List.nodup_append.2 ⟨h.opens_nodup.sublist (List.filter_sublist.map _),
      h.closes_nodup.sublist (List.filter_sublist.map _), fun p hp p' hp' heq => ?_⟩
    subst heq
    have hopen := (h.opens p).1 ((ordered_filter_inGroup ..).1 ((mem_map_position ..).1 hp)).1
    have hclose := (h.closes p).1 ((ordered_filter_inGroup ..).1 ((mem_map_position ..).1 hp')).1
    exact hopen.2 hclose.2

/-- The orders that a batch leaves behind are those of the positions it has not taken. -/
theorem ordered_rest_iff {s : State} {q : List Order} {g : Nat} {p : Pos}
    (hq : ordered q p → ordered s.drive.openQ p ∨ ordered s.drive.closeQ p) :
    ordered (q.filter (fun o => !inGroup g o)) p ↔
      ordered q p ∧ p ∉ (takenOrders g s).map BatchOrder.position := by
  rw [ordered_filter_rest, mem_takenOrders_positions]
  exact and_congr_right (fun ho => ⟨fun hg hm => hg hm.2, fun hm hg => hm ⟨hq ho, hg⟩⟩)

theorem startBatch_moving (g : Nat) (s : State) :
    (startBatch g s).drive.moving = (takenOrders g s).map BatchOrder.position := by
  rw [startBatch_drive]; rfl

theorem startBatch_role (g : Nat) (s : State) (p : Pos) : (startBatch g s).role p = s.role p := by
  rw [startBatch_rest]; rfl

/-- A batch taken out of a lawful queue leaves the drive lawful: the positions taken are MOVING with their gates on, and
the orders left are those of the others. -/
theorem QueueLaws.driveLaws_startBatch {s : State} (h : QueueLaws s) (hb : s.drive.batch = none) {o : Order}
    (ho : s.drive.head = some o) : DriveLaws (startBatch (switchGroup o.position) s) := by
  have hidle : s.drive.moving = [] := by unfold Drive.moving; rw [hb]
  have hstill (p) : (s.pos p).condition ≠ .moving := fun hc => by simpa [hidle] using (h.moving p).1 hc
  have hoff (p) : (s.pos p).gate ≠ true := fun hg => by simpa [hidle] using (h.gates p).1 hg
  have htaken {p} (hp : p ∈ (takenOrders (switchGroup o.position) s).map BatchOrder.position) :
      (s.pos p).condition ≠ .absent := fun ha => by
    rcases ((mem_takenOrders_positions ..).1 hp).1 with hq | hq
    · rw [h.opens, ha] at hq; cases hq.1
    · rw [h.closes, ha] at hq; cases hq.1
  refine (driveLaws_iff _).2 ⟨⟨fun p => ?opens, fun p => ?closes, ?openNodup, ?closeNodup, fun p => ?moving,
    fun p => ?gates, fun p => ?absent, fun b hb' => ?batch⟩, fun hnone => ?waiting⟩
  case opens =>
    rw [startBatch_drive, ordered_rest_iff .inl, h.opens]
    by_cases hp : p ∈ (takenOrders (switchGroup o.position) s).map BatchOrder.position
    · simp [startBatch_pos_taken hp, hp]
    · simp [startBatch_pos_left hp, hp]
  case closes =>
    rw [startBatch_drive, ordered_rest_iff .inr, h.closes]
    by_cases hp : p ∈ (takenOrders (switchGroup o.position) s).map BatchOrder.position
    · simp [startBatch_pos_taken hp, hp]
    · simp [startBatch_pos_left hp, hp]
  case openNodup =>
    rw [startBatch_drive]
    exact h.opens_nodup.sublist (List.filter_sublist.map _)
  case closeNodup =>
    rw [startBatch_drive]
    exact h.closes_nodup.sublist (List.filter_sublist.map _)
  case moving =>
    rw [startBatch_moving]
    by_cases hp : p ∈ (takenOrders (switchGroup o.position) s).map BatchOrder.position
    · simp [startBatch_pos_taken hp, hp]
    · simp [startBatch_pos_left hp, hp, hstill p]
  case gates =>
    rw [startBatch_moving]
    by_cases hp : p ∈ (takenOrders (switchGroup o.position) s).map BatchOrder.position
    · simp [startBatch_pos_taken hp, hp]
    · simp [startBatch_pos_left hp, hp, hoff p]
  case absent =>
    rw [startBatch_role, ← h.absent]
    by_cases hp : p ∈ (takenOrders (switchGroup o.position) s).map BatchOrder.position
    · simp [startBatch_pos_taken hp, htaken hp]
    · rw [startBatch_pos_left hp]
  case batch =>
    rw [startBatch_drive] at hb'
    cases hb'
    exact h.takenOrders_formed ho
  case waiting =>
    rw [startBatch_drive] at hnone
    cases hnone

/-- Forming a batch ends the waiting of orders: the laws of the Switch Drive hold after it (R110). -/
theorem QueueLaws.driveLaws_formBatch {s : State} (h : QueueLaws s) : DriveLaws (formBatch s) := by
  by_cases hb : s.drive.batch = none
  · cases ho : s.drive.head with
    | none =>
      rw [formBatch_none (.inr ho)]
      exact (driveLaws_iff s).2 ⟨h, fun _ => (Drive.head_eq_none _).1 ho⟩
    | some o =>
      rw [formBatch_head hb ho]
      exact h.driveLaws_startBatch hb ho
  · rw [formBatch_none (.inl hb)]
    exact (driveLaws_iff s).2 ⟨h, fun hnone => absurd hnone hb⟩

/-! ### Targets taken of held positions -/

theorem Drive.hasOrder_iff (d : Drive) (p : Pos) : d.hasOrder p = true ↔ ordered d.openQ p ∨ ordered d.closeQ p := by
  simp [Drive.hasOrder, ordered]

theorem Drive.remove_unordered {d : Drive} {p : Pos} (h : d.hasOrder p = false) : d.remove p = d := by
  have hkeep (q : List Order) (hq : q.any (fun o => o.position == p) = false) :
      q.filter (fun o => o.position != p) = q :=
    List.filter_eq_self.2 (fun o ho => by simpa using List.any_eq_false.1 hq o ho)
  obtain ⟨ho, hc⟩ := Bool.or_eq_false_iff.1 h
  simp only [Drive.remove, hkeep _ ho, hkeep _ hc]

theorem target_of_held {h : HoldSet} (hh : h ≠ HoldSet.empty) : h.target = .opened := if_neg hh

/-- The state with OPEN orders of the present moment appended for the positions of a list (R107). -/
def withOpens (ps : List Pos) (s : State) : State :=
  { s with drive := { s.drive with openQ := s.drive.openQ ++ ps.map (fun p => ⟨p, s.uptime⟩) } }

/-- A held position without an order is given one exactly when it is CLOSED (R108). -/
theorem takeTarget_held {s : State} {p : Pos} (hh : (s.pos p).holds ≠ HoldSet.empty)
    (hn : s.drive.hasOrder p = false) (hc : (s.pos p).condition = .closed ∨ (s.pos p).condition = .opened) :
    takeTarget p s = withOpens (if (s.pos p).condition = .closed then [p] else []) s := by
  unfold takeTarget
  rw [if_pos hc, target_of_held hh, hn]
  rcases hc with hc | hc
  · simp [hc, Target.condition, Drive.append, withOpens]
  · simp [hc, Target.condition, removeOrder, Drive.remove_unordered hn, withOpens]

theorem withOpens_withOpens (ps qs : List Pos) (s : State) :
    withOpens qs (withOpens ps s) = withOpens (ps ++ qs) s := by
  have huptime : (withOpens ps s).uptime = s.uptime := rfl
  simp only [withOpens] at huptime ⊢
  simp [huptime]

theorem withOpens_hasOrder (ps : List Pos) (s : State) (p : Pos) :
    (withOpens ps s).drive.hasOrder p = true ↔ s.drive.hasOrder p = true ∨ p ∈ ps := by
  simp [Drive.hasOrder_iff, withOpens, ordered, or_and_right, exists_or, or_right_comm]

/-- Of held positions without orders the CLOSED ones are given OPEN orders, in the order of the list (R108, R109). -/
theorem takeTargets_held {s : State} {ps : List Pos} (hnd : ps.Nodup)
    (hh : ∀ p ∈ ps, (s.pos p).holds ≠ HoldSet.empty) (hn : ∀ p ∈ ps, s.drive.hasOrder p = false)
    (hc : ∀ p ∈ ps, (s.pos p).condition = .closed ∨ (s.pos p).condition = .opened) :
    takeTargets ps s = withOpens (ps.filter (fun p => decide ((s.pos p).condition = .closed))) s := by
  induction ps generalizing s with
  | nil => simp [takeTargets, withOpens]
  | cons a l ih =>
    simp only [List.forall_mem_cons] at hh hn hc
    obtain ⟨hal, hnd⟩ := List.nodup_cons.1 hnd
    have hstep := takeTarget_held hh.1 hn.1 hc.1
    have hrest : ∀ p ∈ l, (takeTarget a s).drive.hasOrder p = false := fun p hp => by
      have hpa : p ≠ a := fun h => hal (h ▸ hp)
      rw [hstep, ← Bool.not_eq_true, withOpens_hasOrder, hn.2 p hp]
      split <;> simp [hpa]
    have hfold : takeTargets (a :: l) s = takeTargets l (takeTarget a s) := rfl
    rw [hfold, ih hnd (by simpa using hh.2) hrest (by simpa using hc.2)]
    simp only [takeTarget_pos]
    rw [hstep, withOpens_withOpens, List.filter_cons]
    split <;> simp_all

/-! ### The start-up sequence (R172) -/

section
variable (c : Contacts) (loopClosed keyOn : Bool) (st : Settings) (r : Retained) (s : State)

@[simp] theorem startState_pos (p : Pos) : (startState c loopClosed keyOn st r s).pos p = startPosition c st r p :=
  tabulate_get _ p

/-- The SWITCHED positions whose contact reads closed, ascending. -/
def closedPositions : List Pos :=
  Pos.all.filter (fun p => decide (st.role.get p = .switched ∧ c.closed p = true))

theorem mem_closedPositions (p : Pos) :
    p ∈ closedPositions c st ↔ st.role.get p = .switched ∧ c.closed p = true := by
  simp [closedPositions, Pos.mem_all]

theorem startCondition_eq_closed (role : Role) (p : Pos) :
    startCondition c role p = .closed ↔ role = .switched ∧ c.closed p = true := by
  unfold startCondition readContact
  cases c.closed p <;> split <;> simp_all

theorem startCondition_eq_opened (role : Role) (p : Pos) :
    startCondition c role p = .opened ↔ role = .switched ∧ c.closed p = false := by
  unfold startCondition readContact
  cases c.closed p <;> split <;> simp_all

theorem startCondition_eq_absent (role : Role) (p : Pos) : startCondition c role p = .absent ↔ role ≠ .switched := by
  unfold startCondition readContact
  cases c.closed p <;> split <;> simp_all

theorem startCondition_ne_moving (role : Role) (p : Pos) : startCondition c role p ≠ .moving := by
  unfold startCondition readContact
  cases c.closed p <;> split <;> simp

/-- SAFETY holds every SWITCHED position at start-up (R128). -/
theorem startHolds_held (p : Pos) : startHolds r .switched p ≠ HoldSet.empty := by
  simp [startHolds, HoldSet.empty]

/-- The state after the reconciliation, before the first batch: an OPEN order for every SWITCHED position with a closed
contact (R106, R109). -/
def reconciled : State := withOpens (closedPositions c st) (startState c loopClosed keyOn st r s)

theorem reconciled_pos (p : Pos) : (reconciled c loopClosed keyOn st r s).pos p = startPosition c st r p :=
  startState_pos c loopClosed keyOn st r s p

theorem reconciled_openQ_positions :
    (reconciled c loopClosed keyOn st r s).drive.openQ.map Order.position = closedPositions c st := by
  simp [reconciled, withOpens, startState, Drive.afterReset, Function.comp_def]

theorem ordered_reconciled (p : Pos) :
    ordered (reconciled c loopClosed keyOn st r s).drive.openQ p ↔ p ∈ closedPositions c st := by
  rw [← mem_map_position, reconciled_openQ_positions]

/-- The reconciliation gives every SWITCHED position with a closed contact an OPEN order (R106, R109). -/
theorem takeTargets_eq_reconciled :
    takeTargets (startState c loopClosed keyOn st r s).switchedPositions (startState c loopClosed keyOn st r s) =
      reconciled c loopClosed keyOn st r s := by
  have hmem {p} (hp : p ∈ (startState c loopClosed keyOn st r s).switchedPositions) : st.role.get p = .switched := by
    simpa [State.switchedPositions, State.role, startState] using (List.mem_filter.1 hp).2
  have hclosed : (startState c loopClosed keyOn st r s).switchedPositions.filter
      (fun p => decide (((startState c loopClosed keyOn st r s).pos p).condition = .closed)) = closedPositions c st := by
    unfold State.switchedPositions closedPositions
    rw [List.filter_filter]
    refine List.filter_congr (fun p _ => ?_)
    simp only [startState_pos, startPosition, startCondition_eq_closed]
    have hrole : (startState c loopClosed keyOn st r s).role p = st.role.get p := rfl
    by_cases hr : st.role.get p = .switched <;> simp [hrole, hr]
  have hnodup : (startState c loopClosed keyOn st r s).switchedPositions.Nodup := (List.nodup_finRange 24).filter _
  rw [takeTargets_held hnodup, hclosed, reconciled]
  · intro p hp
    simpa [startPosition, hmem hp] using startHolds_held r p
  · intro p hp
    rfl
  · intro p hp
    rw [startState_pos]
    simp only [startPosition, startCondition_eq_closed, startCondition_eq_opened, hmem hp, true_and]
    cases c.closed p <;> simp

/-- Before the first batch the queue is as the laws ask (R106 to R109). -/
theorem queueLaws_reconciled : QueueLaws (reconciled c loopClosed keyOn st r s) := by
  refine ⟨fun p => ?opens, fun p => ?closes, ?openNodup, List.nodup_nil, fun p => ?moving, fun p => ?gates,
    fun p => ?absent, fun b hb => ?batch⟩
  case opens =>
    rw [ordered_reconciled, mem_closedPositions, reconciled_pos]
    simp only [startPosition, startCondition_eq_closed]
    exact ⟨fun h => ⟨h, h.1 ▸ startHolds_held r p⟩, fun h => h.1⟩
  case closes =>
    rw [reconciled_pos]
    simp only [startPosition, startCondition_eq_opened]
    refine ⟨fun ⟨o, ho, _⟩ => (nomatch ho), fun ⟨⟨hr, _⟩, hh⟩ => ?_⟩
    rw [hr] at hh
    exact absurd hh (startHolds_held r p)
  case openNodup =>
    rw [reconciled_openQ_positions]
    exact (List.nodup_finRange 24).filter _
  case moving =>
    rw [reconciled_pos]
    exact ⟨fun h => absurd h (startCondition_ne_moving c _ p), fun h => nomatch h⟩
  case gates =>
    rw [reconciled_pos]
    exact ⟨fun h => (nomatch h), fun h => nomatch h⟩
  case absent =>
    rw [reconciled_pos]
    exact startCondition_eq_absent c _ p
  case batch => cases hb

/-- The OPEN orders stand in ascending order of their positions (R109). -/
theorem closedPositions_head {lowest : Pos} {rest : List Pos} (h : closedPositions c st = lowest :: rest) {p : Pos}
    (hp : p ∈ closedPositions c st) : lowest ≤ p := by
  have hsorted : (closedPositions c st).Pairwise (· < ·) :=
    (List.sortedLT_finRange 24).pairwise.sublist List.filter_sublist
  rw [h] at hsorted hp
  rcases List.mem_cons.1 hp with rfl | hp
  · exact le_refl _
  · exact le_of_lt ((List.pairwise_cons.1 hsorted).1 p hp)

/-- The lowest switch group with a closed contact is that of the first of them (R110). -/
theorem lowest_group_iff {lowest : Pos} {rest : List Pos} (h : closedPositions c st = lowest :: rest) {p : Pos}
    (hp : p ∈ closedPositions c st) :
    (∀ q ∈ closedPositions c st, p.val / 6 ≤ q.val / 6) ↔ switchGroup p = switchGroup lowest := by
  have hle {q} (hq : q ∈ closedPositions c st) : lowest.val / 6 ≤ q.val / 6 :=
    Nat.div_le_div_right (closedPositions_head c st h hq)
  constructor
  · intro hfirst
    exact Nat.le_antisymm (hfirst lowest (h ▸ List.mem_cons_self ..)) (hle hp)
  · intro hg q hq
    exact hg.trans_le (hle hq)

/-- RESET is the state with every OPEN order queued, and the first batch formed on it (R172). -/
theorem exec_reset : exec (.reset c loopClosed keyOn) s =
    .next (formBatch (reconciled c loopClosed keyOn (settled s.store.loadedSettings s.store.loadedRetained)
      s.store.loadedRetained s)) := by
  rw [← takeTargets_eq_reconciled]
  rfl

/-- A position without an OPEN order stands after the first batch as the start-up sequence left it. -/
theorem firstBatch_pos_unordered {p : Pos} (hp : p ∉ closedPositions c st) :
    (formBatch (reconciled c loopClosed keyOn st r s)).pos p = startPosition c st r p := by
  rw [formBatch_pos_unordered]
  · exact reconciled_pos c loopClosed keyOn st r s p
  · rwa [ordered_reconciled]
  · exact fun ⟨o, ho, _⟩ => nomatch ho

/-- The first batch takes exactly the SWITCHED positions with a closed contact of the lowest group that has one
(R110). -/
theorem firstBatch_pos_ordered {p : Pos} (hp : p ∈ closedPositions c st) :
    let first := ∀ q ∈ closedPositions c st, p.val / 6 ≤ q.val / 6
    let x := (formBatch (reconciled c loopClosed keyOn st r s)).pos p
    (first → x = { startPosition c st r p with condition := .moving, gate := true })
      ∧ (¬ first → x = startPosition c st r p) := by
  intro first x
  obtain ⟨lowest, rest, hlist⟩ := List.exists_cons_of_ne_nil (List.ne_nil_of_mem hp)
  have hfirst : first ↔ switchGroup p = switchGroup lowest := lowest_group_iff c st hlist hp
  have hhead : (reconciled c loopClosed keyOn st r s).drive.head
      = some ⟨lowest, (startState c loopClosed keyOn st r s).uptime⟩ := by
    simp [reconciled, hlist, withOpens, startState, Drive.afterReset, Drive.head]
  have hx : x = (startBatch (switchGroup lowest) (reconciled c loopClosed keyOn st r s)).pos p :=
    congrArg (State.pos · p) (formBatch_head rfl hhead)
  have htaken := mem_takenOrders_positions (switchGroup lowest) (reconciled c loopClosed keyOn st r s) p
  rw [ordered_reconciled, ← hfirst] at htaken
  have hpos := reconciled_pos c loopClosed keyOn st r s p
  constructor
  · intro h
    rw [hx, startBatch_pos_taken (htaken.2 ⟨.inl hp, h⟩), hpos]
  · intro h
    rw [hx, startBatch_pos_left (fun ht => h (htaken.1 ht).2), hpos]

end

theorem startRecord_eq (trials : Nat) (latched : Option Reason) :
    startRecord trials latched =
      ⟨if latched.isSome then .latched else .clear, none, 0, 0, latched, none, none, trials⟩ := by
  cases latched <;> rfl

/-- Settles O3: the queue that the reconciliation leaves is lawful, and the first batch touches condition and gate of
the lowest group's positions alone. -/
theorem resetPositions : Obligations.ResetPositions := by
  intro c loopClosed keyOn s
  refine ⟨_, exec_reset c loopClosed keyOn s, (queueLaws_reconciled ..).driveLaws_formBatch, fun p => ?_⟩
  intro locked latched
  generalize hst : settled s.store.loadedSettings s.store.loadedRetained = st
  generalize hr : s.store.loadedRetained = r
  generalize hu : reconciled c loopClosed keyOn st r s = u
  have hupos : u.pos p = startPosition c st r p := hu ▸ reconciled_pos c loopClosed keyOn st r s p
  have hsettings : (formBatch u).settings = st := (acts_formBatch u).settings.trans (hu ▸ rfl)
  have hrole (q) : (formBatch u).role q = st.role.get q := by rw [State.role, hsettings]
  have hmem (q) : q ∈ closedPositions c st ↔ (formBatch u).role q = .switched ∧ c.closed q = true := by
    rw [mem_closedPositions, hrole]
  obtain ⟨cond, gate, hrest⟩ := formBatch_pos u p
  rw [hupos] at hrest
  refine ⟨?role, ?holds, ?reason, ?qual, ?residual, ?lastChange, ?lastClass, ?ratio, fun hne => ?unswitched,
    fun hs ho => ?opened, fun hs hc => ?closed⟩
  case role =>
    rw [hrole, ← hst]
    exact tabulate_get _ p
  case holds => rw [hrest, hrole]; subst hr; rfl
  case reason => rw [hrest]; subst hr; rfl
  case qual => rw [hrest, hsettings]; subst hr; exact startRecord_eq ..
  case residual => rw [hrest]; rfl
  case lastChange => rw [hrest]; rfl
  case lastClass => rw [hrest]; rfl
  case ratio => rw [hrest]; rfl
  case unswitched =>
    have hp : p ∉ closedPositions c st := fun h => hne ((hmem p).1 h).1
    rw [← hu, firstBatch_pos_unordered c loopClosed keyOn st r s hp]
    exact ⟨(startCondition_eq_absent c _ p).2 (hrole p ▸ hne), rfl⟩
  case opened =>
    have hp : p ∉ closedPositions c st := fun h => by rw [hmem, ho] at h; cases h.2
    rw [← hu, firstBatch_pos_unordered c loopClosed keyOn st r s hp]
    exact ⟨(startCondition_eq_opened c _ p).2 ⟨hrole p ▸ hs, ho⟩, rfl⟩
  case closed =>
    intro first
    have hp : p ∈ closedPositions c st := (hmem p).2 ⟨hs, hc⟩
    have hfirst : first ↔ ∀ q ∈ closedPositions c st, p.val / 6 ≤ q.val / 6 :=
      forall_congr' (fun q => by rw [hmem, and_imp])
    obtain ⟨hin, hout⟩ := firstBatch_pos_ordered c loopClosed keyOn st r s hp
    rw [hu, ← hfirst] at hin hout
    refine ⟨fun h => ?_, fun h => ?_⟩
    · rw [hin h]; exact ⟨rfl, rfl⟩
    · rw [hout h]; exact ⟨(startCondition_eq_closed c _ p).2 ⟨hrole p ▸ hs, hc⟩, rfl⟩

end Sys2Proof.Machine
end

section
/-! PROOFS. Write Setting (R167): the values of settings under `put`, how a body is judged, and what the rows that carry
it answer and leave. -/

namespace Sys2Proof.Machine

/-! ### Settings read and written (Table 11-1) -/

@[simp] theorem kind_get_set_self {α : Type} (t : PerKind α) (k : NoticeKind) (v : α) : (t.set k v).get k = v := by
  cases k <;> rfl

@[simp] theorem kind_set_get {α : Type} (t : PerKind α) (k : NoticeKind) : t.set k (t.get k) = t := by
  cases k <;> rfl

@[simp] theorem Role.ofCode_code (r : Role) : Role.ofCode r.code = some r := by cases r <;> rfl

@[simp] theorem LinkSpeed.ofBaud_baud (b : LinkSpeed) : LinkSpeed.ofBaud b.baud = some b := by cases b <;> rfl

@[simp] theorem Subscription.ofCode_code (b : Subscription) : Subscription.ofCode b.code = some b := by cases b <;> rfl

theorem Role.code_of_ofCode {v : Nat} {r : Role} (h : Role.ofCode v = some r) : r.code = v := by
  unfold Role.ofCode at h
  split at h <;> cases h <;> rfl

theorem LinkSpeed.baud_of_ofBaud {v : Nat} {b : LinkSpeed} (h : LinkSpeed.ofBaud v = some b) : b.baud = v := by
  unfold LinkSpeed.ofBaud at h
  split at h <;> cases h <;> rfl

theorem Subscription.code_of_ofCode {v : Nat} {b : Subscription} (h : Subscription.ofCode v = some b) : b.code = v := by
  unfold Subscription.ofCode at h
  split at h <;> cases h <;> rfl

/-- Outside the three speeds a value names none (R157). -/
theorem LinkSpeed.ofBaud_eq_none {v : Nat} (h : v ∉ [9600, 19200, 38400]) : LinkSpeed.ofBaud v = none := by
  cases hb : LinkSpeed.ofBaud v with
  | none => rfl
  | some b => rw [← LinkSpeed.baud_of_ofBaud hb] at h; cases b <;> simp [LinkSpeed.baud] at h

theorem Subscription.ofCode_eq_none {v : Nat} (h : 3 < v) : Subscription.ofCode v = none := by
  cases hb : Subscription.ofCode v with
  | none => rfl
  | some b => rw [← Subscription.code_of_ofCode hb] at h; cases b <;> simp [Subscription.code] at h

theorem clampNat_zero (hi v : Nat) : clampNat 0 hi v = min v hi := by
  unfold clampNat
  split
  · omega
  · split <;> omega

/-- A flag's value of at most 1 is read back as it was written. -/
theorem flag_of_le_one {v : Nat} (h : v ≤ 1) : (if (v == 1) = true then 1 else 0) = v := by
  interval_cases v <;> rfl

theorem flag_beq_one (b : Bool) : ((if b then 1 else 0 : Nat) == 1) = b := by cases b <;> rfl

/-- The applied value of a setting is what Read Setting then shows (R167). -/
theorem value_put {x : Setting} {v w : Nat} (st : Settings) (h : x.applied v = some w) : (st.put x w).value x = w := by
  cases x with
  | number n => cases n <;> rfl
  | learningEnable =>
    obtain ⟨hv, ⟨⟩⟩ := Option.ite_none_right_eq_some.1 h
    exact flag_of_le_one hv
  | autoWalk =>
    obtain ⟨hv, ⟨⟩⟩ := Option.ite_none_right_eq_some.1 h
    exact flag_of_le_one hv
  | speed l =>
    obtain ⟨hv, ⟨⟩⟩ := Option.ite_none_right_eq_some.1 h
    obtain ⟨b, hb⟩ := Option.isSome_iff_exists.1 hv
    cases l <;> simp [Settings.put, Settings.value, Settings.speed, hb, LinkSpeed.baud_of_ofBaud hb]
  | role p =>
    obtain ⟨hv, ⟨⟩⟩ := Option.ite_none_right_eq_some.1 h
    obtain ⟨r, hr⟩ := Option.isSome_iff_exists.1 hv
    simp [Settings.put, Settings.value, hr, get_set, Role.code_of_ofCode hr]
  | peerGroup p =>
    obtain ⟨hv, ⟨⟩⟩ := Option.ite_none_right_eq_some.1 h
    simpa [Settings.put, Settings.value, get_set] using Nat.lt_succ_of_le hv
  | exclusion p =>
    obtain ⟨hv, ⟨⟩⟩ := Option.ite_none_right_eq_some.1 h
    simpa [Settings.put, Settings.value, get_set] using flag_of_le_one hv
  | blendWeight g =>
    cases h
    simp [Settings.put, Settings.value, get_set, clampNat_zero]
  | subscription q k =>
    obtain ⟨hv, ⟨⟩⟩ := Option.ite_none_right_eq_some.1 h
    obtain ⟨b, hb⟩ := Option.isSome_iff_exists.1 hv
    simp [Settings.put, Settings.value, hb, Subscription.code_of_ofCode hb]

/-- The value that stands, written again, leaves the working copy as it is (R167). -/
theorem put_value (st : Settings) (x : Setting) : st.put x (st.value x) = st := by
  cases x with
  | number n => cases n <;> rfl
  | learningEnable => simp only [Settings.put, Settings.value, flag_beq_one]
  | autoWalk => simp only [Settings.put, Settings.value, flag_beq_one]
  | speed l => cases l <;> simp [Settings.put, Settings.value, Settings.speed]
  | role p => simp [Settings.put, Settings.value]
  | peerGroup p => simp [Settings.put, Settings.value]
  | exclusion p => simp only [Settings.put, Settings.value, flag_beq_one, set_get_self]
  | blendWeight g => simp [Settings.put, Settings.value]
  | subscription q k => simp [Settings.put, Settings.value]

/-! ### A Write Setting judged (R162, R167) -/

/-- The setting and the applied value that a four-character body carries. -/
theorem bodyWrite_four {code index hi lo : Byte} {x : Setting}
    (hx : Setting.ofCode code.toNat index.toNat = some x) :
    bodyWrite [code, index, hi, lo] = (x.applied (hi.toNat * 256 + lo.toNat)).map (fun v => (x, v)) := by
  simp [bodyWrite, bodySetting, hx, ofBytes_two]

/-- Off Link P a Write Setting whose body carries a value is applied. -/
theorem judgeWriteSetting_some {q : Port} (hq : q ≠ .linkP) {code index hi lo : Byte} {x : Setting} {w : Nat}
    (hx : Setting.ofCode code.toNat index.toNat = some x) (hw : x.applied (hi.toNat * 256 + lo.toNat) = some w)
    (c : Contacts) (s : State) :
    judgeWriteSetting c q [code, index, hi, lo] s = writeApplied c code index x w s := by
  cases q <;> simp [judgeWriteSetting, checked, bodyWrite_four hx, hw, Request.permitted, Request.needsKey] at hq ⊢

/-- A value outside the list of an enumerated setting is answered BAD_BODY. -/
theorem judgeWriteSetting_none {q : Port} (hq : q ≠ .linkP) {code index hi lo : Byte} {x : Setting}
    (hx : Setting.ofCode code.toNat index.toNat = some x) (hw : x.applied (hi.toNat * 256 + lo.toNat) = none)
    (c : Contacts) (s : State) :
    judgeWriteSetting c q [code, index, hi, lo] s = (s, [0x02]) := by
  cases q <;> simp [judgeWriteSetting, checked, bodyWrite_four hx, hw, Request.permitted] at hq ⊢ <;> rfl

/-! ### The rows that carry a Write Setting -/

/-- Each row with the Code 0x51 is its frame judged as a Write Setting; the rows that can change a role end as an event
(R110, R170). -/
theorem exec_write {c : Instr} {f : RequestFrame} (h : requestOf c = some f) (hcode : f.code = 0x51) (s : State) :
    let t := receiveRequest f.port f.station 0x51 f.body (judgeWriteSetting f.contacts f.port f.body) s
    exec c s = .next t ∨ exec c s = .next (conclude s t) := by
  cases c with
  | writeSetting => cases h; exact .inr rfl
  | writeRole => cases h; exact .inr rfl
  | writePeerGroup => cases h; exact .inl rfl
  | writeExclusionFlag => cases h; exact .inl rfl
  | writeBlendWeight => cases h; exact .inl rfl
  | writeRoutineInterval => cases h; exact .inl rfl
  | writeQualifierSetting => cases h; exact .inl rfl
  | writeLearningEnable => cases h; exact .inl rfl
  | writeSwitchTiming => cases h; exact .inl rfl
  | writeRestoreDelay => cases h; exact .inl rfl
  | writeLeakageSetting => cases h; exact .inl rfl
  | writeWalkSetting => cases h; exact .inl rfl
  | writeLinkSetting => cases h; exact .inl rfl
  | writeSubscription => cases h; exact .inl rfl
  | unknownRequestCode q st k b =>
    obtain ⟨hk, ⟨⟩⟩ := Option.ite_none_left_eq_some.1 h
    cases hcode
    exact absurd rfl hk
  | _ => cases h <;> cases hcode

/-- A row that carries a Write Setting and leaves queue and store alone. -/
theorem exec_write_quiet {c : Instr} {f : RequestFrame} {s u : State} {out : List Byte} (h : requestOf c = some f)
    (hcode : f.code = 0x51) (hr : Ready f.port f.station f.code f.body s)
    (hj : judgeWriteSetting f.contacts f.port f.body (toAnswering f.port s) = (toAnswering f.port u, out))
    (hd : u.drive = s.drive) (hs : u.store = s.store) :
    exec c s = .next (answered f.port f.station 0x51 out u) := by
  rw [hcode] at hr
  have he := exec_write h hcode s
  rw [receiveRequest_ready hr, takeRequest_change hj] at he
  exact he.elim id (fun he => he.trans (congrArg _ (conclude_id hd hs)))

/-! ### An applied value (R7, R167) -/

/-- A value that stands changes nothing and is answered. -/
theorem writeApplied_stands (c : Contacts) (code index : Byte) (x : Setting) (s : State) :
    writeApplied c code index x (s.settings.value x) s = (s, 0x00 :: code :: index :: bytes2 (s.settings.value x)) := by
  unfold writeApplied
  rw [if_pos rfl]
  rfl

/-- Another value changes the setting, and the answer carries it. -/
theorem writeApplied_changed {c : Contacts} {x : Setting} {v w : Nat} {s t : State} (hw : x.applied v = some w)
    (hne : w ≠ s.settings.value x) (hc : changeSetting c x w s = some t) (ht : t.settings = s.settings.put x w)
    (code index : Byte) : writeApplied c code index x w s = (t, 0x00 :: code :: index :: bytes2 w) := by
  simp only [writeApplied, if_neg hne, hc, accept, settingBody, ht, value_put _ hw]
  rfl

/-- The settings whose write replaces a value of the working copy and does nothing else. -/
def Setting.plain : Setting → Bool
  | .learningEnable => true
  | .autoWalk => true
  | .exclusion _ => true
  | .blendWeight _ => true
  | .subscription _ _ => true
  | _ => false

theorem changeSetting_plain {x : Setting} (hx : x.plain = true) (c : Contacts) (v : Nat) (s : State) :
    changeSetting c x v s = some (putSetting x v s) := by
  cases x with
  | number n => cases hx
  | speed l => cases hx
  | role p => cases hx
  | peerGroup p => cases hx
  | _ => rfl

theorem writeApplied_plain {x : Setting} (hx : x.plain = true) {v w : Nat} (hw : x.applied v = some w) (c : Contacts)
    (code index : Byte) (s : State) :
    writeApplied c code index x w s = (putSetting x w s, 0x00 :: code :: index :: bytes2 w) := by
  by_cases hv : w = s.settings.value x
  · subst hv
    rw [writeApplied_stands, putSetting, put_value]
  · exact writeApplied_changed hw hv (changeSetting_plain hx c w s) rfl code index

/-- A link whose receiver is IDLE takes a written speed or address; the port being answered is not IDLE (R157). -/
theorem applyIfIdle_toAnswering (l : Link) (q : Port) (s : State) :
    applyIfIdle l (toAnswering q s) =
      toAnswering q
        (if (s.ports.get l.port).receiver = .idle ∧ q ≠ l.port then
          modifyPort l.port (applyLink s.settings (some l)) s else s) := by
  unfold applyIfIdle
  by_cases hq : q = l.port
  · subst hq
    simp [toAnswering]
  · rw [toAnswering, modifyPort_get, if_neg (Ne.symm hq)]
    by_cases hi : (s.ports.get l.port).receiver = .idle
    · rw [if_pos hi, if_pos ⟨hi, hq⟩]
      cases l <;> cases q <;> rfl
    · rw [if_neg hi, if_neg (fun hc => hi hc.1)]
      rfl

/-! ### A Write Setting taken -/

/-- A row that carries a Write Setting of a setting and value arrives on a port that may write, and is taken. -/
structure Writes (c : Instr) (f : RequestFrame) (code index hi lo : Byte) (x : Setting) (s : State) : Prop where
  row : requestOf c = some f
  code_eq : f.code = 0x51
  body_eq : f.body = [code, index, hi, lo]
  port_ne : f.port ≠ .linkP
  names : Setting.ofCode code.toNat index.toNat = some x
  ready : Ready f.port f.station f.code f.body s

section
variable {c : Instr} {f : RequestFrame} {code index hi lo : Byte} {x : Setting} {s : State}
  (W : Writes c f code index hi lo x s)
include W

theorem Writes.refused (hv : x.applied (hi.toNat * 256 + lo.toNat) = none) :
    exec c s = .next (answered f.port f.station 0x51 [0x02] s) :=
  exec_write_quiet W.row W.code_eq W.ready
    (by rw [W.body_eq, judgeWriteSetting_none W.port_ne W.names hv]) rfl rfl

theorem Writes.applied {w : Nat} (hw : x.applied (hi.toNat * 256 + lo.toNat) = some w) {u : State} {out : List Byte}
    (hu : writeApplied f.contacts code index x w (toAnswering f.port s) = (toAnswering f.port u, out))
    (hd : u.drive = s.drive) (hs : u.store = s.store) :
    exec c s = .next (answered f.port f.station 0x51 out u) :=
  exec_write_quiet W.row W.code_eq W.ready
    (by rw [W.body_eq, judgeWriteSetting_some W.port_ne W.names hw, hu]) hd hs

theorem Writes.stands {w : Nat} (hw : x.applied (hi.toNat * 256 + lo.toNat) = some w) (hv : w = s.settings.value x) :
    exec c s = .next (answered f.port f.station 0x51 (0x00 :: code :: index :: bytes2 w) s) := by
  subst hv
  exact W.applied hw (writeApplied_stands _ code index x (toAnswering f.port s)) rfl rfl

theorem Writes.changed {w : Nat} (hw : x.applied (hi.toNat * 256 + lo.toNat) = some w)
    (hne : w ≠ s.settings.value x) {u : State}
    (hc : changeSetting f.contacts x w (toAnswering f.port s) = some (toAnswering f.port u))
    (hset : u.settings = s.settings.put x w) (hd : u.drive = s.drive) (hs : u.store = s.store) :
    exec c s = .next (answered f.port f.station 0x51 (0x00 :: code :: index :: bytes2 w) u) :=
  W.applied hw (writeApplied_changed (s := toAnswering f.port s) (t := toAnswering f.port u) hw hne hc hset code index)
    hd hs

theorem Writes.plain (hx : x.plain = true) {w : Nat} (hw : x.applied (hi.toNat * 256 + lo.toNat) = some w) :
    exec c s = .next (answered f.port f.station 0x51 (0x00 :: code :: index :: bytes2 w) (putSetting x w s)) :=
  W.applied hw (writeApplied_plain hx hw _ code index (toAnswering f.port s)) rfl rfl

end

/-! ### The enumerated settings and the blend weights -/

section
variable {c : Instr} {f : RequestFrame} {code index hi lo : Byte} {s : State}

/-- A changed peer group sets the learned ratio of its position to 1024 (R12). -/
theorem Writes.peerGroup_changed {p : Pos} (W : Writes c f code index hi lo (.peerGroup p) s) {g : Fin 7}
    (hv : hi.toNat * 256 + lo.toNat = g.val) (hg : g ≠ s.settings.peerGroup.get p) :
    exec c s = .next (answered f.port f.station 0x51 (0x00 :: code :: index :: bytes2 g.val)
      { setRatio p 1024 s with settings := { s.settings with peerGroup := s.settings.peerGroup.set p g } }) := by
  have happlied : (Setting.peerGroup p).applied (hi.toNat * 256 + lo.toNat) = some g.val := by
    rw [hv]; exact if_pos (Nat.le_of_lt_succ g.isLt)
  have hput : s.settings.put (.peerGroup p) g.val
      = { s.settings with peerGroup := s.settings.peerGroup.set p g } := by simp [Settings.put]
  rw [← hput]
  exact W.changed happlied (fun h => hg (Fin.ext h)) rfl rfl rfl rfl

/-- The values that a speed setting takes are the three speeds (R157). -/
theorem applied_speed (l : Link) (b : LinkSpeed) : (Setting.speed l).applied b.baud = some b.baud := by
  simp [Setting.applied]

theorem applied_speed_none (l : Link) {v : Nat} (h : v ∉ [9600, 19200, 38400]) : (Setting.speed l).applied v = none := by
  simp [Setting.applied, LinkSpeed.ofBaud_eq_none h]

theorem applied_subscription (q : Port) (k : NoticeKind) (b : Subscription) :
    (Setting.subscription q k).applied b.code = some b.code := by
  simp [Setting.applied]

theorem applied_subscription_none (q : Port) (k : NoticeKind) {v : Nat} (h : 3 < v) :
    (Setting.subscription q k).applied v = none := by
  simp [Setting.applied, Subscription.ofCode_eq_none h]

theorem putSetting_speedP (b : LinkSpeed) (s : State) :
    putSetting (.speed .p) b.baud s = { s with settings := { s.settings with speedP := b } } := by
  simp [putSetting, Settings.put]

theorem putSetting_speedS (b : LinkSpeed) (s : State) :
    putSetting (.speed .s) b.baud s = { s with settings := { s.settings with speedS := b } } := by
  simp [putSetting, Settings.put]

theorem putSetting_subscription (q : Port) (k : NoticeKind) (b : Subscription) (s : State) :
    putSetting (.subscription q k) b.code s =
      { s with settings :=
        { s.settings with
          subscription := s.settings.subscription.set q ((s.settings.subscription.get q).set k b) } } := by
  simp [putSetting, Settings.put]

theorem putSetting_blendWeight (g : Fin 6) (w : Fin 4) (s : State) :
    putSetting (.blendWeight g) w.val s =
      { s with settings := { s.settings with blendWeight := s.settings.blendWeight.set g w } } := by
  simp [putSetting, Settings.put]

/-- A changed speed is applied to its link where the receiver is IDLE and not that of the port being answered (R157). -/
theorem Writes.speed_changed {l : Link} (W : Writes c f code index hi lo (.speed l) s) {b : LinkSpeed}
    (hv : hi.toNat * 256 + lo.toNat = b.baud) (hb : b ≠ s.settings.speed l) {t : State}
    (ht : putSetting (.speed l) b.baud s = t) :
    exec c s = .next (answered f.port f.station 0x51 (0x00 :: code :: index :: bytes2 b.baud)
      (if (s.ports.get l.port).receiver = .idle ∧ f.port ≠ l.port then
        modifyPort l.port (applyLink t.settings (some l)) t else t)) := by
  subst ht
  have hne : b.baud ≠ s.settings.value (.speed l) := fun h => hb (by
    have := congrArg LinkSpeed.ofBaud h
    simpa [Settings.value] using this)
  refine W.changed (hv ▸ applied_speed l b) hne
    (congrArg some (applyIfIdle_toAnswering l f.port (putSetting _ _ s))) ?_ ?_ ?_ <;> split <;> rfl

end

/-- Settles O37: each setting of the list is plain, or a peer group, or a speed. -/
theorem choicesWritten : Obligations.ChoicesWritten := by
  intro c f code index hi lo x s hrow hcode hbody hport hx hready
  have W : Writes c f code index hi lo x s := ⟨hrow, hcode, hbody, hport, hx, hready⟩
  intro v done refused st idleWith
  refine ⟨?peerGroup, ?exclusion, ?blendWeight, ?learning, ?autoWalk, ?speedP, ?speedS, ?subscription⟩
  case peerGroup =>
    rintro p rfl
    refine ⟨fun hv => W.refused (if_neg (Nat.not_le.2 hv)), fun hv => W.stands (if_pos ?_) hv, fun g hv hg => ?_⟩
    · exact hv.trans_le (Nat.le_of_lt_succ (st.peerGroup.get p).isLt)
    · rw [hv]; exact W.peerGroup_changed hv hg
  case exclusion =>
    rintro p rfl
    exact ⟨fun hv => W.refused (if_neg (Nat.not_le.2 hv)), fun hv => W.plain rfl (if_pos hv)⟩
  case blendWeight =>
    rintro g rfl w hw
    rw [← putSetting_blendWeight]
    exact W.plain rfl (congrArg some ((clampNat_zero 3 v).trans hw.symm))
  case learning =>
    rintro rfl
    exact ⟨fun hv => W.refused (if_neg (Nat.not_le.2 hv)), fun hv => W.plain rfl (if_pos hv)⟩
  case autoWalk =>
    rintro rfl
    exact ⟨fun hv => W.refused (if_neg (Nat.not_le.2 hv)), fun hv => W.plain rfl (if_pos hv)⟩
  case speedP =>
    rintro rfl
    refine ⟨fun hv => W.refused (applied_speed_none .p hv), fun b hv hb => ?_, fun b hv hb => ?_⟩
    · rw [hv]; exact W.stands (hv ▸ applied_speed .p b) (congrArg LinkSpeed.baud hb)
    · rw [hv]; exact W.speed_changed hv hb (putSetting_speedP b s)
  case speedS =>
    rintro rfl
    refine ⟨fun hv => W.refused (applied_speed_none .s hv), fun b hv hb => ?_, fun b hv hb => ?_⟩
    · rw [hv]; exact W.stands (hv ▸ applied_speed .s b) (congrArg LinkSpeed.baud hb)
    · rw [hv]; exact W.speed_changed hv hb (putSetting_speedS b s)
  case subscription =>
    rintro q k rfl
    refine ⟨fun hv => W.refused (applied_subscription_none q k hv), fun b hv => ?_⟩
    rw [hv, ← putSetting_subscription]
    exact W.plain rfl (hv ▸ applied_subscription q k b)

end Sys2Proof.Machine
end

section
/-! PROOFS. Role changes (R7 to R11): what `changeRole` leaves, case by case, and the two rows that carry one. -/

namespace Sys2Proof.Machine

theorem modify_modify (s : State) (p : Pos) (f g : PosState → PosState) :
    (s.modify p f).modify p g = s.modify p (fun x => g (f x)) := by
  have hset (a b : PosState) : (s.positions.set p a).set p b = s.positions.set p b := by simp
  simp [State.modify, State.pos, get_set, hset]

theorem emitCleared_eq (p : Pos) (q : QualRecord) (s : State) :
    emitCleared p q s =
      if q.state = .clear ∨ q.state = .suspect then s
      else emit .fault .clear (some p) (reasonDetail q.reason) s := by
  unfold emitCleared
  cases q.state <;> simp [QualState.faulted]

theorem emitCleared_drive (p : Pos) (q : QualRecord) (s : State) : (emitCleared p q s).drive = s.drive := by
  unfold emitCleared; split <;> rfl

theorem emitCleared_store (p : Pos) (q : QualRecord) (s : State) : (emitCleared p q s).store = s.store := by
  unfold emitCleared; split <;> rfl

theorem roleChangeRefused_iff (p : Pos) (s : State) :
    roleChangeRefused p s = true ↔
      (s.pos p).condition ≠ .opened ∨ (s.pos p).holds.lockout = true ∨ (s.pos p).holds.locate = true := by
  simp [roleChangeRefused, or_assoc]

/-- A changed role has its record cleared and its residual counter at 0, with the FAULT CLEAR notice of a fault (R10,
R11). -/
theorem clearRecord_eq (p : Pos) (s : State) :
    clearRecord p s =
      emitCleared p (s.pos p).qual
        (s.modify p (fun x => { x with qual := QualRecord.cleared s.settings.trialCount, residual := 0 })) := by
  simp only [clearRecord, setResidual, setQual, modify_modify]

/-- A hold set that starts empty at its position, with SAFETY outside ARMED (R10). -/
theorem placeSafetyOn_startEmpty (p : Pos) (s : State) :
    placeSafetyOn p (startEmpty p s) =
      s.modify p (fun x =>
        { x with
          holds := { HoldSet.empty with safety := decide (s.safety.state ≠ .armed) }, reason := none
          lastChange := if s.safety.state ≠ .armed then s.uptime else x.lastChange }) := by
  unfold placeSafetyOn
  have hpos : (startEmpty p s).pos p = { s.pos p with holds := HoldSet.empty, reason := none } := by
    rw [startEmpty, modify_pos, if_pos rfl]
  by_cases ha : s.safety.state = .armed
  · rw [if_pos (.inl ha)]
    simp [ha, startEmpty, HoldSet.empty]
  · rw [if_neg (by rw [hpos]; exact fun h => h.elim ha (by simp [HoldSet.empty]))]
    simp [putHolder, startEmpty, modify_modify, uptime_eq (modify_now s p _), ha, HoldSet.put, HoldSet.empty, reasonAfter]

/-- What a position keeps that becomes SWITCHED, its condition apart (R10). -/
def newlySwitched (trials uptime : Nat) (state : SafetyState) (x : PosState) : PosState :=
  { x with
    holds := { HoldSet.empty with safety := decide (state ≠ .armed) }, reason := none
    lastChange := if state ≠ .armed then uptime else x.lastChange, qual := QualRecord.cleared trials, residual := 0 }

/-- A position that becomes SWITCHED (R10): the contact is read, the hold set starts empty or with SAFETY, the record is
cleared, and the target and the report follow. -/
theorem enterSwitching_eq (c : Contacts) (p : Pos) (s : State) :
    enterSwitching c p s =
      handOn p (readContact c p) (takeTarget p (emitCleared p (s.pos p).qual
        ((setCondition p (readContact c p) (setRole p .switched s)).modify p
          (newlySwitched s.settings.trialCount s.uptime s.safety.state)))) := by
  have hup : (setCondition p (readContact c p) (setRole p .switched s)).uptime = s.uptime :=
    uptime_eq (setCondition_now _ p _)
  rw [enterSwitching, placeSafetyOn_startEmpty, clearRecord_eq, modify_modify, modify_pos, if_pos rfl, setCondition_pos,
    if_pos rfl, hup]
  simp only [setCondition_safety, modify_settings, setCondition_settings]
  rfl

theorem acts_emitRemoved (s : State) (p : Pos) (h : Holder) (old : HoldSet) : Acts s (emitRemoved p h old s) := by
  unfold emitRemoved
  split
  · exact acts_emit s _ _ _ _
  · exact .refl s

theorem acts_leaveSwitching (s : State) (p : Pos) (r : Role) : Acts (setRole p r s) (leaveSwitching p r s) :=
  (((((((acts_removeOrder _ p).trans (acts_setCondition _ p _)).trans
    (acts_modify _ p (unswitched s.settings.trialCount s.uptime) (fun _ => rfl) (fun _ => rfl))).trans
    (acts_emitRemoved _ p _ _)).trans (acts_emitRemoved _ p _ _)).trans (acts_emitCleared _ p _)).trans
    (acts_markUnlatched _ _)).trans (acts_walkReport _ p _)

theorem acts_enterSwitching (c : Contacts) (s : State) (p : Pos) :
    Acts (setRole p .switched s) (enterSwitching c p s) := by
  rw [enterSwitching_eq]
  exact ((((acts_setCondition _ p _).trans
    (acts_modify _ p (newlySwitched s.settings.trialCount s.uptime s.safety.state) (fun _ => rfl) (fun _ => rfl))).trans
    (acts_emitCleared _ p _)).trans (acts_takeTarget _ p)).trans (acts_handOn _ p _)

theorem changeRole_leave {p : Pos} {r : Role} {s : State} (c : Contacts) (hs : s.role p = .switched)
    (h : roleChangeRefused p s = false) : changeRole c p r s = some (leaveSwitching p r s) := by
  unfold changeRole
  rw [hs]
  simp [h]

theorem changeRole_refused {p : Pos} {r : Role} {s : State} (c : Contacts) (hs : s.role p = .switched)
    (h : roleChangeRefused p s = true) : changeRole c p r s = none := by
  unfold changeRole
  rw [hs]
  simp [h]

theorem changeRole_enter {p : Pos} {s : State} (c : Contacts) (hs : s.role p ≠ .switched) :
    changeRole c p .switched s = some (enterSwitching c p s) := by
  unfold changeRole
  split
  · contradiction
  · rfl
  · contradiction

theorem changeRole_between {p : Pos} {r : Role} {s : State} (c : Contacts) (hs : s.role p ≠ .switched)
    (hr : r ≠ .switched) : changeRole c p r s = some (clearRecord p (setRole p r s)) := by
  unfold changeRole
  split
  · contradiction
  · contradiction
  · rfl

/-! ### The rows that carry a role -/

/-- Both rows are a Write Setting frame of the role, and end as an event (R110, R170). -/
theorem exec_role {q : Port} {station : Byte} {p : Pos} {r : Role} {c : Contacts} {i : Instr} (s : State)
    (hi : i = .writeRole q station (byte p.number) (BitVec.ofNat 16 r.code) c
      ∨ i = .writeSetting q station [0x20, byte p.number, 0, byte r.code] c) :
    exec i s = .next (conclude s (receiveRequest q station 0x51 [0x20, byte p.number, 0, byte r.code]
      (judgeWriteSetting c q [0x20, byte p.number, 0, byte r.code]) s)) := by
  rcases hi with rfl | rfl
  · cases r <;> rfl
  · rfl

theorem names_role (p : Pos) : Setting.ofCode (0x20 : Byte).toNat (byte p.number).toNat = some (.role p) :=
  congrArg (Option.map Setting.role) (ofNumber_byte p)

theorem applied_role (p : Pos) (r : Role) :
    (Setting.role p).applied ((0 : Byte).toNat * 256 + (byte r.code).toNat) = some r.code := by
  have hvalue : (0 : Byte).toNat * 256 + (byte r.code).toNat = r.code := by cases r <;> rfl
  rw [hvalue]
  simp [Setting.applied]

theorem bytes2_role (r : Role) : bytes2 r.code = [0, byte r.code] := by cases r <;> rfl

theorem role_code_inj {r r' : Role} (h : r.code = r'.code) : r = r' := by
  have := congrArg Role.ofCode h
  simpa using this

theorem role_code_ne {s : State} {p : Pos} {r : Role} (h : r ≠ s.role p) : r.code ≠ s.settings.value (.role p) :=
  fun hv => h (role_code_inj hv)

theorem changeSetting_role (c : Contacts) (p : Pos) (r : Role) (s : State) :
    changeSetting c (.role p) r.code s = changeRole c p r s := by
  simp [changeSetting]

theorem put_role (st : Settings) (p : Pos) (r : Role) :
    st.put (.role p) r.code = { st with role := st.role.set p r } := by
  simp [Settings.put]

section
variable {q : Port} {station : Byte} {p : Pos} {r : Role} {c : Contacts} {i : Instr} {s : State}
  (hi : i = .writeRole q station (byte p.number) (BitVec.ofNat 16 r.code) c
    ∨ i = .writeSetting q station [0x20, byte p.number, 0, byte r.code] c)
  (hq : q ≠ .linkP) (hr : Ready q station 0x51 [0x20, byte p.number, 0, byte r.code] s)
include hi hq hr

theorem exec_role_applied {u : State} {out : List Byte}
    (hu : writeApplied c 0x20 (byte p.number) (.role p) r.code (toAnswering q s) = (toAnswering q u, out)) :
    exec i s = .next (conclude s (answered q station 0x51 out u)) := by
  rw [exec_role s hi, receiveRequest_ready hr, takeRequest_change]
  rw [judgeWriteSetting_some hq (names_role p) (applied_role p r), hu]

/-- The role that stands is answered, and nothing changes (R7). -/
theorem exec_role_stands (h : r = s.role p) :
    exec i s = .next (answered q station 0x51 [0x00, 0x20, byte p.number, 0, byte r.code] s) := by
  have hw := writeApplied_stands c 0x20 (byte p.number) (.role p) (toAnswering q s)
  rw [show (toAnswering q s).settings.value (.role p) = r.code from congrArg Role.code h.symm, bytes2_role] at hw
  exact (exec_role_applied hi hq hr hw).trans (congrArg _ (conclude_id rfl rfl))

/-- A refused role change is answered NOT_ISOLATED, and nothing changes (R8). -/
theorem exec_role_refused (h : r ≠ s.role p) (hc : changeRole c p r (toAnswering q s) = none) :
    exec i s = .next (answered q station 0x51 [0x08] s) := by
  have hw : writeApplied c 0x20 (byte p.number) (.role p) r.code (toAnswering q s) = (toAnswering q s, [0x08]) := by
    unfold writeApplied
    rw [if_neg (role_code_ne (s := toAnswering q s) h), changeSetting_role, hc]
    rfl
  exact (exec_role_applied hi hq hr hw).trans (congrArg _ (conclude_id rfl rfl))

/-- A role change is answered with the role, and the event ends (R7, R110, R170). -/
theorem exec_role_changed (h : r ≠ s.role p) {u : State}
    (hc : changeRole c p r (toAnswering q s) = some (toAnswering q u)) (hu : Acts (setRole p r s) u) :
    exec i s = .next (conclude s (answered q station 0x51 [0x00, 0x20, byte p.number, 0, byte r.code] u)) := by
  rw [← bytes2_role]
  refine exec_role_applied hi hq hr (writeApplied_changed (applied_role p r) (role_code_ne (s := toAnswering q s) h)
    ((changeSetting_role ..).trans hc) ?_ _ _)
  rw [put_role]
  exact hu.settings

end

/-- Settles O38: the role stands, is refused, leaves SWITCHED, becomes SWITCHED, or changes between the others. -/
theorem roleWritten : Obligations.RoleWritten := by
  intro q station p r c s hq hr x answer roles clear faultClear holdClear i hi
  have hcleared (t : State) : faultClear t = emitCleared p x.qual t := (emitCleared_eq p x.qual t).symm
  refine ⟨exec_role_stands hi hq hr, fun hne hs h => ?refused, fun hne hs ho hl hw => ?leave,
    fun hne hs hsw => ?enter, fun hne hs hsw => ?between⟩
  case refused =>
    exact exec_role_refused hi hq hr hne (changeRole_refused (s := toAnswering q s) c hs ((roleChangeRefused_iff p s).2 h))
  case leave =>
    have hok : roleChangeRefused p s = false := by
      rw [← Bool.not_eq_true, roleChangeRefused_iff]
      rintro (h | h | h)
      · exact h ho
      · rw [hl] at h; cases h
      · rw [hw] at h; cases h
    have hc : changeRole c p r (toAnswering q s) = some (toAnswering q (leaveSwitching p r s)) := by
      rw [← toAnswering_leaveSwitching]
      exact changeRole_leave (s := toAnswering q s) c hs hok
    intro left u
    have hu : u = emitCleared p x.qual (holdClear .site (holdClear .plant left)) := hcleared _
    rw [hu]
    exact exec_role_changed hi hq hr hne hc (acts_leaveSwitching s p r)
  case enter =>
    subst hsw
    have hc : changeRole c p .switched (toAnswering q s) = some (toAnswering q (enterSwitching c p s)) := by
      rw [← toAnswering_enterSwitching]
      exact changeRole_enter (s := toAnswering q s) c hs
    intro read outside entered
    rw [hcleared]
    have he := exec_role_changed hi hq hr hne hc (acts_enterSwitching c s p)
    rw [enterSwitching_eq] at he
    exact he
  case between =>
    have hc : changeRole c p r (toAnswering q s) = some (toAnswering q (clearRecord p (setRole p r s))) := by
      rw [← toAnswering_clearRecord, ← toAnswering_setRole]
      exact changeRole_between (s := toAnswering q s) c hs hsw
    rw [hcleared]
    have he := exec_role_changed hi hq hr hne hc (acts_clearRecord _ p)
    rw [clearRecord_eq] at he
    exact he.trans (congrArg _ (conclude_id (emitCleared_drive ..) (emitCleared_store ..)))

end Sys2Proof.Machine
end

section
/-! PROOFS. The laws of the Sweep Record Ring (R23, R27, R28, R30) across every operation: `SameRing` for the operations
that touch nothing the laws speak of, `KeepsRing` for the others, one lemma for each. -/

namespace Sys2Proof.Machine

/-! ### The laws, and what they speak of -/

/-- The laws of the ring but those that count a port's pins and pending sweeps: what the slots hold. -/
structure SlotLaws (s : State) : Prop where
  pinned : ∀ q, ∀ n ∈ (s.ports.get q).pins, s.seq.holds n
  filling : ∀ i, (∃ r, s.seq.slots.get i = some r ∧ r.assessed = false) ↔ s.seq.running.map Running.slot = some i
  filled : ∀ i, i ∈ s.seq.fillOrder ↔ (s.seq.slots.get i).isSome = true
  nodup : s.seq.fillOrder.Nodup

/-- A port has at most one pending requested sweep and, with it, at most two pins (R23, R30). -/
def CountLaws (s : State) : Prop :=
  ∀ q, s.pendingCount q ≤ 1 ∧ (s.ports.get q).pins.length + s.pendingCount q ≤ 2

theorem ringLaws_iff (s : State) : RingLaws s ↔ CountLaws s ∧ SlotLaws s := by
  constructor
  · rintro ⟨hcount, hpinned, hfilling, hfilled, hnodup⟩
    exact ⟨hcount, hpinned, hfilling, hfilled, hnodup⟩
  · rintro ⟨hcount, hpinned, hfilling, hfilled, hnodup⟩
    exact ⟨hcount, hpinned, hfilling, hfilled, hnodup⟩

theorem RingLaws.counts {s : State} (h : RingLaws s) : CountLaws s := ((ringLaws_iff s).1 h).1

theorem RingLaws.slots {s : State} (h : RingLaws s) : SlotLaws s := ((ringLaws_iff s).1 h).2

/-- An operation keeps the laws of the ring. -/
def KeepsRing (s t : State) : Prop := RingLaws s → RingLaws t

theorem KeepsRing.intro {s t : State} (h : CountLaws s → SlotLaws s → CountLaws t ∧ SlotLaws t) : KeepsRing s t :=
  fun hs => (ringLaws_iff t).2 (h hs.counts hs.slots)

theorem KeepsRing.refl (s : State) : KeepsRing s s := id

theorem KeepsRing.trans {s t u : State} (h : KeepsRing s t) (k : KeepsRing t u) : KeepsRing s u := k ∘ h

theorem KeepsRing.foldl {α : Type} (f : State → α → State) (h : ∀ s a, KeepsRing s (f s a)) (l : List α) (s : State) :
    KeepsRing s (l.foldl f s) := by
  induction l generalizing s with
  | nil => exact .refl s
  | cons a l ih => exact (h s a).trans (ih _)

/-- What the laws of the ring speak of is as it was: slots, fill order, requested sweeps, the slot of the running sweep
and the pins. -/
structure SameRing (s t : State) : Prop where
  slots : t.seq.slots = s.seq.slots
  fillOrder : t.seq.fillOrder = s.seq.fillOrder
  requested : t.seq.requested = s.seq.requested
  running : t.seq.running.map Running.slot = s.seq.running.map Running.slot
  pins : ∀ q, (t.ports.get q).pins = (s.ports.get q).pins

/-- The origin of the running sweep is that of the record in its slot. -/
theorem runningOrigin_eq (s : State) :
    s.runningOrigin
      = (s.seq.running.map Running.slot).bind (fun i => (s.seq.slots.get i).map SweepRecord.origin) := by
  unfold State.runningOrigin Sequencer.current
  cases s.seq.running with
  | none => rfl
  | some run => simp [Function.comp_def]

theorem SameRing.pendingCount {s t : State} (h : SameRing s t) (q : Port) : t.pendingCount q = s.pendingCount q := by
  simp only [State.pendingCount, runningOrigin_eq, h.requested, h.running, h.slots]

theorem SameRing.holds {s t : State} (h : SameRing s t) (n : Nat) : t.seq.holds n ↔ s.seq.holds n := by
  simp only [Sequencer.holds, h.slots]

theorem SameRing.keeps {s t : State} (h : SameRing s t) : KeepsRing s t := by
  refine KeepsRing.intro ?_
  rintro hcount ⟨hpinned, hfilling, hfilled, hnodup⟩
  refine ⟨fun q => ?count, fun q n hn => ?pinned, fun i => ?filling, fun i => ?filled, ?nodup⟩
  case count => rw [h.pendingCount, h.pins]; exact hcount q
  case pinned => rw [h.pins] at hn; exact (h.holds n).2 (hpinned q n hn)
  case filling => rw [h.slots, h.running]; exact hfilling i
  case filled => rw [h.fillOrder, h.slots]; exact hfilled i
  case nodup => rw [h.fillOrder]; exact hnodup

/-- An operation that leaves sequencer and ports alone. -/
theorem KeepsRing.of_eq {s t : State} (hseq : t.seq = s.seq) (hports : t.ports = s.ports) : KeepsRing s t :=
  SameRing.keeps ⟨by rw [hseq], by rw [hseq], by rw [hseq], by rw [hseq], fun _ => by rw [hports]⟩

/-- A change of a port that leaves its pins alone. -/
theorem ring_modifyPort (s : State) (q : Port) {f : PortState → PortState} (hf : ∀ x, (f x).pins = x.pins) :
    KeepsRing s (modifyPort q f s) := by
  refine SameRing.keeps ⟨rfl, rfl, rfl, rfl, fun r => ?_⟩
  rw [modifyPort_get]
  split
  · next h => rw [h, hf]
  · rfl

/-- A change of a port's pins to held numbers, within its limit (R30). -/
theorem ring_modifyPins {s : State} {q : Port} {f : PortState → PortState}
    (hlimit : (f (s.ports.get q)).pins.length + s.pendingCount q ≤ 2)
    (hheld : ∀ n ∈ (f (s.ports.get q)).pins, s.seq.holds n) : KeepsRing s (modifyPort q f s) := by
  refine KeepsRing.intro ?_
  rintro hcount ⟨hpinned, hfilling, hfilled, hnodup⟩
  refine ⟨fun r => ⟨(hcount r).1, ?limit⟩, fun r n hn => ?pinned, hfilling, hfilled, hnodup⟩
  case limit =>
    rw [modifyPort_get]
    split
    · next h => rw [h]; exact hlimit
    · exact (hcount r).2
  case pinned =>
    rw [modifyPort_get] at hn
    split at hn
    · exact hheld n hn
    · exact hpinned r n hn

/-! ### The start of a sweep (R26 to R29) -/

/-- The slot a starting sweep takes is FREE, or holds an ASSESSED record that no port pins (R28). -/
theorem chooseSlot_cases {s : State} {i : Fin 8} (h : s.chooseSlot = some i) :
    s.seq.slots.get i = none
      ∨ ∃ r, s.seq.slots.get i = some r ∧ r.assessed = true ∧ ∀ q, r.number ∉ (s.ports.get q).pins := by
  unfold State.chooseSlot at h
  split at h
  · next j hj =>
    cases h
    exact .inl (by simpa using List.find?_some hj)
  · exact .inr ((reusable_iff s i).1 (List.find?_some h))

/-- Every pinned record stands in another slot than the one a starting sweep takes (R28). -/
theorem holds_elsewhere {s : State} {i : Fin 8} (hi : s.chooseSlot = some i) {q : Port} {n : Nat}
    (hn : n ∈ (s.ports.get q).pins) (h : s.seq.holds n) :
    ∃ j r, j ≠ i ∧ s.seq.slots.get j = some r ∧ r.assessed = true ∧ r.number = n := by
  obtain ⟨j, r, hj, ha, rfl⟩ := h
  refine ⟨j, r, ?_, hj, ha, rfl⟩
  rintro rfl
  rcases chooseSlot_cases hi with hfree | ⟨r', hr', _, hunpinned⟩
  · rw [hfree] at hj; cases hj
  · rw [hr'] at hj
    cases hj
    exact hunpinned q hn

theorem SlotLaws.beginSweep {s : State} (h : SlotLaws s) (hidle : s.seq.running = none) {i : Fin 8}
    (hi : s.chooseSlot = some i) (o : Origin) (w : Bool) : SlotLaws (beginSweep o w i s) := by
  refine ⟨fun q n hn => ?pinned, fun j => ?filling, fun j => ?filled, ?nodup⟩
  case pinned =>
    obtain ⟨j, r, hne, hj, ha, hr⟩ := holds_elsewhere hi hn (h.pinned q n hn)
    refine ⟨j, r, ?_, ha, hr⟩
    simp only [Machine.beginSweep, get_set, if_neg hne, hj]
  case filling =>
    have hnone := h.filling j
    rw [hidle] at hnone
    simp only [Machine.beginSweep, get_set, Option.map_some, Option.some.injEq]
    by_cases hj : j = i
    · rw [if_pos hj]
      exact ⟨fun _ => hj.symm, fun _ => ⟨_, rfl, rfl⟩⟩
    · rw [if_neg hj, hnone]
      exact ⟨fun hc => (nomatch hc), fun hc => absurd hc.symm hj⟩
  case filled =>
    simp only [Machine.beginSweep, get_set, List.mem_append, List.mem_filter, List.mem_singleton, h.filled j]
    by_cases hj : j = i <;> simp [hj]
  case nodup =>
    refine List.nodup_append.2 ⟨h.nodup.filter _, List.nodup_singleton i, fun a ha b hb => ?_⟩
    rw [List.mem_singleton.1 hb]
    simpa using (List.mem_filter.1 ha).2

/-- A starting sweep counts for the port whose origin it has, as a sweep that waits does (R23). -/
theorem pendingCount_beginSweep (s : State) (o : Origin) (w : Bool) (i : Fin 8) (q : Port) :
    (beginSweep o w i s).pendingCount q
      = (s.seq.requested.filter (fun k => k == q)).length + (if o = portOrigin q then 1 else 0) := by
  have horigin : (beginSweep o w i s).runningOrigin = some o := by
    simp [runningOrigin_eq, beginSweep, get_set, newRecord]
  simp only [State.pendingCount, horigin, Option.some.injEq]
  rfl

theorem pendingCount_idle {s : State} (h : s.seq.running = none) (q : Port) :
    s.pendingCount q = (s.seq.requested.filter (fun k => k == q)).length := by
  simp [State.pendingCount, runningOrigin_eq, h]

/-- A sweep that no port requested starts (R26). -/
theorem ring_beginSweep {s : State} {o : Origin} (ho : ∀ q, o ≠ portOrigin q) (hidle : s.seq.running = none)
    {i : Fin 8} (hi : s.chooseSlot = some i) (w : Bool) : KeepsRing s (beginSweep o w i s) := by
  refine KeepsRing.intro ?_
  rintro hcount hslots
  refine ⟨fun q => ?_, hslots.beginSweep hidle hi o w⟩
  have hsame : (beginSweep o w i s).pendingCount q = s.pendingCount q := by
    rw [pendingCount_beginSweep, pendingCount_idle hidle, if_neg (ho q)]
    rfl
  rw [hsame]
  exact hcount q

theorem portOrigin_inj {q r : Port} (h : portOrigin q = portOrigin r) : q = r := by
  cases q <;> cases r <;> simp [portOrigin] at h ⊢

theorem locate_ne_portOrigin (q : Port) : Origin.locate ≠ portOrigin q := by cases q <;> simp [portOrigin]

theorem routine_ne_portOrigin (q : Port) : Origin.routine ≠ portOrigin q := by cases q <;> simp [portOrigin]

/-- The requested sweep accepted earliest starts: it waited, and now it runs (R23, R26). -/
theorem ring_beginRequested {s : State} {q : Port} {rest : List Port} (hq : s.seq.requested = q :: rest)
    (hidle : s.seq.running = none) {i : Fin 8} (hi : s.chooseSlot = some i) :
    KeepsRing s (beginSweep (portOrigin q) false i { s with seq := { s.seq with requested := rest } }) := by
  refine KeepsRing.intro ?_
  rintro hcount ⟨hpinned, hfilling, hfilled, hnodup⟩
  have hslots : SlotLaws { s with seq := { s.seq with requested := rest } } := ⟨hpinned, hfilling, hfilled, hnodup⟩
  refine ⟨fun k => ?_, hslots.beginSweep hidle hi _ _⟩
  have hsame : (beginSweep (portOrigin q) false i { s with seq := { s.seq with requested := rest } }).pendingCount k
      = s.pendingCount k := by
    rw [pendingCount_beginSweep, pendingCount_idle hidle, hq]
    by_cases hk : q = k
    · simp [hk]
    · have horigin : portOrigin q ≠ portOrigin k := fun h => hk (portOrigin_inj h)
      simp [hk, horigin]
  rw [hsame]
  exact hcount k

/-- A change of what waits, the requested sweeps apart, and of the routine timer. -/
theorem ring_waiting (s : State) (locate routine : Bool) (due : Nat) :
    KeepsRing s
      { s with seq := { s.seq with locateWaiting := locate, routineWaiting := routine, routineDue := due } } :=
  SameRing.keeps ⟨rfl, rfl, rfl, rfl, fun _ => rfl⟩

variable (s : State)

theorem ring_startNext : KeepsRing s (startNext s) := by
  unfold startNext
  split
  · next i hidle hi =>
    split
    · exact (ring_waiting s false s.seq.routineWaiting s.seq.routineDue).trans
        (ring_beginSweep locate_ne_portOrigin hidle hi _)
    · split
      · exact (ring_waiting s s.seq.locateWaiting false s.seq.routineDue).trans
          (ring_beginSweep routine_ne_portOrigin hidle hi _)
      · split
        · next hq => exact ring_beginRequested hq hidle hi
        · exact .refl s
  · exact .refl s

theorem ring_requestLocate : KeepsRing s (requestLocate s) := by
  unfold requestLocate
  split
  · exact .refl s
  · exact (ring_waiting s true s.seq.routineWaiting s.seq.routineDue).trans (ring_startNext _)

/-! ### Positions, notices, marks, targets and conditions -/

theorem offer_pins (sub : PerKind Subscription) (n : Notice) (x : PortState) : (offer sub n x).pins = x.pins := by
  unfold offer
  split
  · split <;> rfl
  · rfl

theorem ring_emit (k : NoticeKind) (e : Edge) (p : Option Pos) (d : Detail) : KeepsRing s (emit k e p d s) :=
  SameRing.keeps ⟨rfl, rfl, rfl, rfl, fun q => by cases q <;> exact offer_pins _ _ _⟩

theorem ring_setQual (p : Pos) (q : QualRecord) : KeepsRing s (setQual p q s) := .of_eq rfl rfl

theorem ring_modifyQual (p : Pos) (f : QualRecord → QualRecord) : KeepsRing s (modifyQual p f s) := .of_eq rfl rfl

theorem ring_setResidual (p : Pos) (n : Nat) : KeepsRing s (setResidual p n s) := .of_eq rfl rfl

theorem ring_setGate (p : Pos) (b : Bool) : KeepsRing s (setGate p b s) := .of_eq rfl rfl

theorem ring_markRetained : KeepsRing s (markRetained s) := .of_eq (by simp) (by simp)

theorem ring_takeTarget (p : Pos) : KeepsRing s (takeTarget p s) := .of_eq (by simp) (by simp)

theorem ring_takeTargets (ps : List Pos) : KeepsRing s (takeTargets ps s) :=
  .foldl _ (fun s p => ring_takeTarget s p) ps s

theorem ring_setCondition (p : Pos) (c : Condition) : KeepsRing s (setCondition p c s) := by
  unfold setCondition
  split
  · exact .refl s
  · refine SameRing.keeps ?_
    unfold Sequencer.conditionChanged
    split
    · exact ⟨rfl, rfl, rfl, by simp [Function.comp_def], fun _ => rfl⟩
    · exact ⟨rfl, rfl, rfl, rfl, fun _ => rfl⟩

/-! ### The walk's ends and moves (R138 to R144) -/

theorem ring_endWalk (o : WalkOutcome) (f : Option Pos) : KeepsRing s (endWalk o f s) := by
  refine KeepsRing.trans ?_ (ring_emit _ _ _ _ _)
  refine SameRing.keeps ⟨rfl, rfl, rfl, ?_, fun _ => rfl⟩
  simp [Sequencer.walkEnded, Function.comp_def]

theorem ring_appendEntry (e : StepEntry) : KeepsRing s (appendEntry e s) := .of_eq rfl rfl

theorem ring_setWalk (w : Walk) : KeepsRing s { s with walk := w } := .of_eq rfl rfl

theorem ring_nextCandidate : KeepsRing s (nextCandidate s) := by
  unfold nextCandidate
  split
  · exact (ring_setWalk s _).trans (ring_requestLocate _)
  · exact ring_endWalk s _ _

theorem ring_reclosingTest (p : Pos) : KeepsRing s (reclosingTest p s) := by
  unfold reclosingTest
  split
  · exact ring_nextCandidate s
  · exact .refl s

/-! ### Hold changes (R84 to R89) -/

theorem ring_putHolder (h : Holder) (b : Bool) (r : Option Reason) (p : Pos) : KeepsRing s (putHolder h b r p s) :=
  .of_eq rfl rfl

theorem ring_interruptTrial (p : Pos) : KeepsRing s (interruptTrial p s) :=
  .of_eq (by simp [interruptTrial]) (by simp [interruptTrial])

theorem ring_emitHolds (h : Holder) (b : Bool) (ps : List Pos) : KeepsRing s (emitHolds h b ps s) := by
  unfold emitHolds
  split
  · exact .foldl _ (fun s p => ring_emit s _ _ _ _) ps s
  · exact .refl s

theorem ring_markLockout (h : Holder) (ps : List Pos) : KeepsRing s (markLockout h ps s) := by
  unfold markLockout
  split
  · exact ring_markRetained s
  · exact .refl s

theorem ring_changeHolder (h : Holder) (b : Bool) (r : Option Reason) (ps : List Pos) :
    KeepsRing s (changeHolder h b r ps s) :=
  ((((KeepsRing.foldl _ (fun s p => ring_putHolder s h b r p) _ s).trans (ring_takeTargets _ _)).trans
    (ring_emitHolds _ h b _)).trans (ring_markLockout _ h _)).trans (.foldl _ (fun s p => ring_interruptTrial s p) _ _)

theorem ring_reclosingAfter (h : Holder) (b : Bool) (ps : List Pos) (s₀ : State) :
    KeepsRing s (reclosingAfter h b ps s₀ s) := by
  unfold reclosingAfter
  split
  · split
    · exact ring_reclosingTest s _
    · exact .refl s
  · exact .refl s

theorem ring_changeHolds (h : Holder) (b : Bool) (r : Option Reason) (ps : List Pos) :
    KeepsRing s (changeHolds h b r ps s) :=
  (ring_changeHolder s h b r ps).trans (ring_reclosingAfter _ h b ps s)

/-! ### Condition reports (R68, R74, R88, R116) -/

theorem ring_latch (p : Pos) : KeepsRing s (latch p s) := (ring_modifyQual s p _).trans (ring_markRetained _)

theorem ring_openReport (p : Pos) : KeepsRing s (openReport p s) := by
  unfold openReport
  split
  · split
    · exact ring_modifyQual s p _
    · exact ring_latch s p
  · exact .refl s

theorem ring_faultReport (p : Pos) : KeepsRing s (faultReport p s) := by
  unfold faultReport
  split
  · exact ring_latch s p
  · exact ring_latch s p
  · exact (ring_latch s p).trans (ring_changeHolds _ _ _ _ _)
  · exact .refl s

theorem ring_qualReport (p : Pos) (c : Condition) : KeepsRing s (qualReport p c s) := by
  cases c with
  | closed => exact ring_setResidual s p 0
  | opened => exact ring_openReport s p
  | moving => exact .refl s
  | jammedClosed => exact ring_faultReport s p
  | jammedOpen => exact ring_faultReport s p
  | conductingOpen => exact ring_faultReport s p
  | absent => exact .refl s

theorem ring_walkReport (p : Pos) (c : Condition) : KeepsRing s (walkReport p c s) := by
  unfold walkReport
  split
  · split
    · exact ring_setWalk s _
    · exact ((ring_changeHolds s _ _ _ _).trans (ring_appendEntry _ _)).trans (ring_nextCandidate _)
    · exact ring_reclosingTest s p
    · exact .refl s
  · exact .refl s

theorem ring_handOn (p : Pos) (c : Condition) : KeepsRing s (handOn p c s) :=
  (ring_qualReport s p c).trans (ring_walkReport _ p c)

theorem ring_conditionReport (p : Pos) (c : Condition) : KeepsRing s (conditionReport p c s) :=
  (ring_takeTarget s p).trans (ring_handOn _ p c)

theorem ring_removeOrder (p : Pos) : KeepsRing s (removeOrder p s) := .of_eq rfl rfl

theorem ring_conductingOpenReport (p : Pos) : KeepsRing s (conductingOpenReport p s) := by
  unfold conductingOpenReport
  split
  · exact (((ring_setCondition s p _).trans (ring_removeOrder _ p)).trans (ring_emit _ _ _ _ _)).trans
      (ring_conditionReport _ p _)
  · exact .refl s

/-! ### The Fault Qualifier's share of a completion (R61 to R80) -/

theorem ring_declaredStanding (p : Pos) : KeepsRing s (declaredStanding p s) := by
  unfold declaredStanding
  split
  · exact ring_openReport s p
  · exact ring_faultReport s p
  · exact ring_faultReport s p
  · exact ring_faultReport s p
  · exact .refl s

theorem ring_insertFault (p : Pos) (c : Abnormal) : KeepsRing s (insertFault p c s) :=
  ((ring_changeHolder s _ _ _ _).trans (ring_emit _ _ _ _ _)).trans (ring_reclosingAfter _ _ _ _ _)

theorem ring_declare (p : Pos) (c : Abnormal) : KeepsRing s (declare p c s) := by
  unfold declare
  split
  · exact ((ring_modifyQual s p _).trans (ring_insertFault _ p c)).trans (ring_declaredStanding _ p)
  · exact (ring_modifyQual s p _).trans (ring_emit _ _ _ _ _)
  · exact .refl s

theorem ring_countAbnormal (p : Pos) (c : Abnormal) : KeepsRing s (countAbnormal p c s) := by
  unfold countAbnormal
  split
  · exact (ring_modifyQual s p _).trans (ring_declare _ p c)
  · exact ring_modifyQual s p _

theorem ring_holdSuspicion (p : Pos) : KeepsRing s (holdSuspicion p s) := by
  unfold holdSuspicion
  split
  · exact ring_modifyQual s p _
  · exact ring_modifyQual s p _

theorem ring_recovered (p : Pos) : KeepsRing s (recovered p s) := (ring_setQual s p _).trans (ring_emit _ _ _ _ _)

theorem ring_confirmTrial (p : Pos) : KeepsRing s (confirmTrial p s) := by
  unfold confirmTrial
  split
  · exact ring_recovered s p
  · exact ring_modifyQual s p _

theorem ring_confirmRecovery (p : Pos) : KeepsRing s (confirmRecovery p s) := by
  unfold confirmRecovery
  split
  · exact ring_recovered s p
  · exact ring_modifyQual s p _

theorem ring_recheckExpired (p : Pos) : KeepsRing s (recheckExpired p s) := by
  unfold recheckExpired
  split
  · exact ring_latch s p
  · split
    · exact (ring_modifyQual s p _).trans (ring_changeHolds _ _ _ _ _)
    · exact ring_modifyQual s p _

theorem ring_waitingSweep (p : Pos) : KeepsRing s (waitingSweep p s) := by
  unfold waitingSweep
  split
  · split
    · exact ring_recheckExpired s p
    · exact ring_modifyQual s p _
  · exact .refl s

theorem ring_takeClass (p : Pos) (cls : Class) (c : Condition) : KeepsRing s (takeClass p cls c s) := by
  unfold takeClass
  split
  · exact .refl s
  · split
    · exact ring_countAbnormal s p _
    · exact ring_countAbnormal s p _
    · exact ring_modifyQual s p _
    · exact ring_holdSuspicion s p
    · exact ring_waitingSweep s p
    · split
      · exact ring_countAbnormal s p _
      · exact .refl s
    · split
      · exact ring_confirmTrial s p
      · exact .refl s
    · exact ring_confirmRecovery s p
    · exact ring_modifyQual s p _
    · exact .refl s

theorem ring_countResidual (p : Pos) : KeepsRing s (countResidual p s) := by
  unfold countResidual
  split
  · exact (ring_setResidual s p _).trans (ring_conductingOpenReport _ p)
  · exact ring_setResidual s p _

theorem ring_takeResidual (p : Pos) (cls : Class) (c : Condition) : KeepsRing s (takeResidual p cls c s) := by
  unfold takeResidual
  split
  · split
    · exact ring_countResidual s p
    · exact .refl s
  · exact ring_setResidual s p 0
  · exact .refl s

theorem ring_takePosition (r : SweepRecord) (p : Pos) : KeepsRing s (takePosition r p s) :=
  (ring_takeClass s p _ _).trans (ring_takeResidual _ p _ _)

/-! ### The walk's decisions and the leakage alarm (R78, R131 to R146) -/

theorem ring_replaceLocate (p : Pos) : KeepsRing s (replaceLocate p s) := by
  unfold replaceLocate
  split
  · exact .of_eq (by simp) (by simp)
  · exact .refl s

theorem ring_groundLatch (p : Pos) : KeepsRing s (groundLatch p s) :=
  (((ring_modifyQual s p _).trans (ring_replaceLocate _ p)).trans (ring_emit _ _ _ _ _)).trans (ring_markRetained _)

theorem ring_startWalk (o : WalkOrigin) : KeepsRing s (startWalk o s) :=
  ((ring_setWalk s _).trans (ring_emit _ _ _ _ _)).trans (ring_nextCandidate _)

theorem ring_baselineDecision (p : Pos) (l : Nat) : KeepsRing s (baselineDecision p l s) := by
  unfold baselineDecision
  split
  · exact ring_endWalk s _ _
  · split
    · exact (ring_appendEntry s _).trans (ring_nextCandidate _)
    · exact (ring_setWalk s _).trans (ring_changeHolds _ _ _ _ _)

theorem ring_measuringDecision (p : Pos) (l : Nat) : KeepsRing s (measuringDecision p l s) := by
  unfold measuringDecision
  split
  · exact ((ring_appendEntry s _).trans (ring_groundLatch _ p)).trans (ring_endWalk _ _ _)
  · exact (((ring_appendEntry s _).trans (ring_changeHolds _ _ _ _ _)).trans (ring_setWalk _ _)).trans
      (ring_reclosingTest _ p)

theorem ring_walkSweep (l : Nat) : KeepsRing s (walkSweep l s) := by
  unfold walkSweep
  split
  · exact ring_baselineDecision s _ l
  · exact ring_measuringDecision s _ l
  · exact .refl s

theorem ring_abandonWalk : KeepsRing s (abandonWalk s) := by
  unfold abandonWalk releaseCandidate
  split
  · exact .refl s
  · split
    · exact (ring_changeHolder s _ _ _ _).trans (ring_endWalk _ _ _)
    · exact ring_endWalk s _ _

theorem ring_setAlarm (a : AlarmState) (n : Nat) : KeepsRing s (setAlarm a n s) := .of_eq rfl rfl

theorem ring_enterAlarm : KeepsRing s (enterAlarm s) := by
  have hset := (ring_setAlarm s .alarm 0).trans (ring_emit _ .leakage .set none .absent)
  unfold enterAlarm
  dsimp only
  split
  · exact hset.trans (ring_startWalk _ _)
  · exact hset

theorem ring_rise (n : Nat) : KeepsRing s (rise n s) := by
  unfold rise
  split
  · exact ring_enterAlarm s
  · exact ring_setAlarm s _ _

theorem ring_fall (n : Nat) : KeepsRing s (fall n s) := by
  unfold fall
  split
  · exact (ring_setAlarm s _ _).trans (ring_emit _ _ _ _ _)
  · exact ring_setAlarm s _ _

theorem ring_moveAlarm (l : Nat) : KeepsRing s (moveAlarm l s) := by
  unfold moveAlarm
  split
  · split
    · exact ring_rise s _
    · exact ring_rise s _
    · exact .refl s
    · exact ring_setAlarm s _ _
  · split
    · split
      · exact .refl s
      · exact ring_setAlarm s _ _
      · exact ring_fall s _
      · exact ring_fall s _
    · exact .refl s

theorem ring_setLeakage (x : Leakage) : KeepsRing s { s with leakage := x } := .of_eq rfl rfl

theorem ring_takeLeakage (l : Nat) : KeepsRing s (takeLeakage l s) := (ring_setLeakage s _).trans (ring_moveAlarm _ l)

/-! ### Batches, and the end of an event (R110 to R112, R170) -/

theorem ring_setMoving (os : List BatchOrder) : KeepsRing s (setMoving os s) :=
  .foldl _ (fun s _ => (ring_setCondition s _ _).trans (ring_setGate _ _ _)) os s

theorem ring_setDrive (d : Drive) : KeepsRing s { s with drive := d } := .of_eq rfl rfl

theorem ring_formBatch : KeepsRing s (formBatch s) := by
  unfold formBatch startBatch
  split
  · exact (ring_setDrive s _).trans (ring_setMoving _ _)
  · exact .refl s

theorem ring_conclude (s₀ : State) : KeepsRing s (conclude s₀ s) := by
  have hbatch : KeepsRing s (formBatchAfter s₀ s) := by
    unfold formBatchAfter
    split
    · exact ring_formBatch s
    · exact .refl s
  unfold conclude startWriteAfter
  split
  · exact hbatch
  · exact hbatch.trans (.of_eq (by simp) (by simp))

theorem ring_emitVerified (p : Pos) (a b : Condition) : KeepsRing s (emitVerified p a b s) := by
  unfold emitVerified
  split
  · exact ring_emit s _ _ _ _
  · split
    · exact ring_emit s _ _ _ _
    · split
      · exact ring_emit s _ _ _ _
      · exact .refl s

theorem ring_completeBatch (c : Contacts) (b : Batch) : KeepsRing s (completeBatch c b s) :=
  (((((ring_setDrive s _).trans
    (KeepsRing.foldl _ (fun s _ => (ring_setCondition s _ _).trans (ring_setGate _ _ _)) _ _)).trans
    (ring_takeTargets _ _)).trans (KeepsRing.foldl _ (fun s _ => ring_emitVerified s _ _ _) _ _)).trans
    (KeepsRing.foldl _ (fun s _ => ring_handOn s _ _) _ _)).trans (ring_formBatch _)

end Sys2Proof.Machine
end

section
/-! PROOFS. The request rows as their frames judged by Code (R162, Table 10-2). -/

namespace Sys2Proof.Machine

/-- Every request row is its frame judged by its Code; the rows that may change holds, records, switches, roles, the
walk or the store end as an event (R110, R170). -/
theorem exec_request {c : Instr} {f : RequestFrame} (h : requestOf c = some f) (s : State) :
    let t := receiveRequest f.port f.station f.code f.body (judgeCode f.contacts f.port f.code f.body) s
    exec c s = .next t ∨ exec c s = .next (conclude s t) := by
  cases c with
  | readStatus => cases h; exact .inl rfl
  | readPosition => cases h; exact .inl rfl
  | readMap => cases h; exact .inl rfl
  | readWalk => cases h; exact .inl rfl
  | requestSweep => cases h; exact .inl rfl
  | pinSweep => cases h; exact .inl rfl
  | readSweep => cases h; exact .inl rfl
  | unpinSweep => cases h; exact .inl rfl
  | placeHold => cases h; exact .inr rfl
  | releaseHold => cases h; exact .inr rfl
  | clearFault => cases h; exact .inr rfl
  | clearSwitch => cases h; exact .inr rfl
  | startLocate => cases h; exact .inr rfl
  | fetchNotices => cases h; exact .inl rfl
  | readSetting => cases h; exact .inl rfl
  | saveSettings => cases h; exact .inr rfl
  | resetRatio => cases h; exact .inl rfl
  | unknownRequestCode q station k body =>
    obtain ⟨hk, ⟨⟩⟩ := Option.ite_none_left_eq_some.1 h
    left
    have hnone : Request.ofCode k = none := by simpa using hk
    have hjudge : judgeCode 0 q k body = refuse .unknownRequest := by
      unfold judgeCode
      rw [hnone]
    simp only [exec, execUnknownRequestCode, hnone, hjudge]
    rfl
  | _ => cases h <;> exact exec_write rfl rfl s

end Sys2Proof.Machine
end

section
/-! PROOFS. The laws of the Sweep Record Ring across requests and events, and that every command keeps them. -/

namespace Sys2Proof.Machine

/-! ### Requests judged: holds, faults, switches, the walk and the settings -/

section
variable (s : State)

theorem ring_checked (r : Request) (q : Port) (ok : Bool) {f : State → Reply} (h : KeepsRing s (f s).1) :
    KeepsRing s (checked r q ok f s).1 := by
  unfold checked
  split
  · exact .refl s
  · split
    · exact .refl s
    · split
      · exact .refl s
      · exact h

theorem ring_holdRequest (b : Bool) (q : Port) (body : List Byte) : KeepsRing s (holdRequest b q body s).1 := by
  unfold holdRequest
  split
  · exact .refl s
  · exact ring_changeHolds s _ _ _ _

theorem ring_emitCleared (p : Pos) (q : QualRecord) : KeepsRing s (emitCleared p q s) := by
  unfold emitCleared
  split
  · exact ring_emit s _ _ _ _
  · exact .refl s

theorem ring_markUnlatched (q : QualRecord) : KeepsRing s (markUnlatched q s) := by
  unfold markUnlatched
  split
  · exact ring_markRetained s
  · exact .refl s

theorem ring_clearFault (p : Pos) : KeepsRing s (clearFault p s) := by
  unfold clearFault
  split
  · exact .refl s
  · exact ((((ring_setQual s p _).trans (ring_changeHolder _ _ _ _ _)).trans (ring_emitCleared _ p _)).trans
      (ring_markUnlatched _ _)).trans (ring_reclosingAfter _ _ _ _ _)

theorem ring_clearSwitch (c : Contacts) (p : Pos) : KeepsRing s (clearSwitch c p s) := by
  unfold clearSwitch
  split
  · exact (((ring_setCondition s p _).trans (ring_setResidual _ p 0)).trans (ring_emit _ _ _ _ _)).trans
      (ring_conditionReport _ p _)
  · exact .refl s

theorem ring_emitRemoved (p : Pos) (h : Holder) (old : HoldSet) : KeepsRing s (emitRemoved p h old s) := by
  unfold emitRemoved
  split
  · exact ring_emit s _ _ _ _
  · exact .refl s

theorem ring_modify (p : Pos) (f : PosState → PosState) : KeepsRing s (s.modify p f) := .of_eq rfl rfl

theorem ring_setRole (p : Pos) (r : Role) : KeepsRing s (setRole p r s) := .of_eq rfl rfl

theorem ring_leaveSwitching (p : Pos) (r : Role) : KeepsRing s (leaveSwitching p r s) :=
  ((((((((ring_setRole s p r).trans (ring_removeOrder _ p)).trans (ring_setCondition _ p _)).trans
    (ring_modify _ p _)).trans (ring_emitRemoved _ p _ _)).trans (ring_emitRemoved _ p _ _)).trans
    (ring_emitCleared _ p _)).trans (ring_markUnlatched _ _)).trans (ring_walkReport _ p _)

theorem ring_clearRecord (p : Pos) : KeepsRing s (clearRecord p s) :=
  ((ring_setQual s p _).trans (ring_setResidual _ p 0)).trans (ring_emitCleared _ p _)

theorem ring_enterSwitching (c : Contacts) (p : Pos) : KeepsRing s (enterSwitching c p s) := by
  rw [enterSwitching_eq]
  exact (((((ring_setRole s p _).trans (ring_setCondition _ p _)).trans (ring_modify _ p _)).trans
    (ring_emitCleared _ p _)).trans (ring_takeTarget _ p)).trans (ring_handOn _ p _)

theorem ring_changeRole (c : Contacts) (p : Pos) (r : Role) : ∀ t ∈ changeRole c p r s, KeepsRing s t := by
  intro t ht
  unfold changeRole at ht
  split at ht
  · split at ht
    · cases ht
    · cases ht
      exact ring_leaveSwitching s p _
  · cases ht
    exact ring_enterSwitching s c p
  · cases ht
    exact (ring_setRole s p _).trans (ring_clearRecord _ p)

theorem ring_putSetting (x : Setting) (v : Nat) : KeepsRing s (putSetting x v s) := .of_eq rfl rfl

theorem applyLink_pins (st : Settings) (l : Option Link) (x : PortState) : (applyLink st l x).pins = x.pins := by
  cases l <;> rfl

theorem ring_applyIfIdle (l : Link) : KeepsRing s (applyIfIdle l s) := by
  unfold applyIfIdle
  split
  · exact ring_modifyPort s _ (fun x => applyLink_pins _ _ x)
  · exact .refl s

theorem ring_afterNumber (n : Number) (v : Nat) : KeepsRing s (afterNumber n v s) := by
  cases n with
  | routineInterval => exact ring_waiting s s.seq.locateWaiting s.seq.routineWaiting _
  | trialCount => exact .of_eq rfl rfl
  | recheckInterval => exact .of_eq rfl rfl
  | stationP => exact ring_applyIfIdle s .p
  | stationS => exact ring_applyIfIdle s .s
  | _ => exact .refl s

theorem ring_changeSetting (c : Contacts) (x : Setting) (v : Nat) : ∀ t ∈ changeSetting c x v s, KeepsRing s t := by
  intro t ht
  cases x with
  | role p => exact ring_changeRole s c p _ t ht
  | peerGroup p => cases ht; exact .of_eq rfl rfl
  | number n => cases ht; exact (ring_putSetting s _ v).trans (ring_afterNumber _ n v)
  | speed l => cases ht; exact (ring_putSetting s _ v).trans (ring_applyIfIdle _ l)
  | _ => cases ht; exact ring_putSetting s _ v

theorem ring_writeApplied (c : Contacts) (code index : Byte) (x : Setting) (v : Nat) :
    KeepsRing s (writeApplied c code index x v s).1 := by
  unfold writeApplied
  split
  · exact .refl s
  · split
    · next t ht => exact ring_changeSetting s c x v t ht
    · exact .refl s

/-! ### Requests judged: sweeps and pins (R23, R30, R32) -/

theorem pendingCount_eq_zero {s : State} {q : Port} (h : s.pendingSweep q = 0) : s.pendingCount q = 0 := by
  have hidle : ¬ (s.runningOrigin = some (portOrigin q) ∨ q ∈ s.seq.requested) :=
    fun hp => (pendingSweep_iff s q).2 hp h
  obtain ⟨hrun, hwait⟩ := not_or.1 hidle
  have hnone : s.seq.requested.filter (fun k => k == q) = [] :=
    List.filter_eq_nil_iff.2 (fun k hk he => hwait (eq_of_beq he ▸ hk))
  simp [State.pendingCount, hnone, hrun]

theorem pendingCount_queued (q k : Port) :
    ({ s with seq := { s.seq with requested := s.seq.requested ++ [q] } } : State).pendingCount k
      = s.pendingCount k + if q = k then 1 else 0 := by
  have horigin : ({ s with seq := { s.seq with requested := s.seq.requested ++ [q] } } : State).runningOrigin
    = s.runningOrigin := rfl
  rw [State.pendingCount, horigin, State.pendingCount, List.filter_append, List.length_append, Nat.add_right_comm]
  by_cases hqk : q = k <;> simp [hqk]

/-- A port without a pending requested sweep asks for one (R23). -/
theorem ring_queueRequested {q : Port} (hnone : s.pendingSweep q = 0) (hlimit : (s.ports.get q).pins.length < 2) :
    KeepsRing s (queueRequested q s) := by
  refine KeepsRing.trans ?_ (ring_startNext _)
  refine KeepsRing.intro ?_
  rintro hcount ⟨hpinned, hfilling, hfilled, hnodup⟩
  refine ⟨fun k => ?_, hpinned, hfilling, hfilled, hnodup⟩
  rw [pendingCount_queued]
  split
  · next hqk =>
    subst hqk
    rw [pendingCount_eq_zero hnone]
    exact ⟨le_refl _, hlimit⟩
  · exact hcount k

theorem ring_judgeRequestSweep (q : Port) (body : List Byte) : KeepsRing s (judgeRequestSweep q body s).1 := by
  refine ring_checked s _ _ _ ?_
  split
  · exact .refl s
  · next hnone =>
    split
    · exact .refl s
    · next hlimit => exact ring_queueRequested s (not_not.1 hnone) (not_le.1 hlimit)

theorem holds_of_assessedIn {x : Sequencer} {i : Fin 8} {r : SweepRecord} (h : x.assessedIn i = some r) :
    x.holds r.number := by
  obtain ⟨hget, hassessed⟩ := Option.filter_eq_some_iff.1 h
  exact ⟨i, r, hget, hassessed, rfl⟩

/-- The record that a Pin Sweep names stands in the ring (R30). -/
theorem holds_of_named {x : Sequencer} {n : Nat} {r : SweepRecord} (h : x.named n = some r) : x.holds r.number := by
  have hmem : ∃ l : List (Fin 8), r ∈ l.filterMap x.assessedIn := by
    unfold Sequencer.named at h
    split at h
    · exact ⟨_, List.mem_of_getLast? h⟩
    · exact ⟨_, List.mem_of_find?_eq_some h⟩
  obtain ⟨l, hl⟩ := hmem
  obtain ⟨i, _, hi⟩ := List.mem_filterMap.1 hl
  exact holds_of_assessedIn hi

/-- A pending sweep counts once toward a port's limit (R23). -/
theorem pendingCount_le_pinCount {s : State} (h : RingLaws s) (q : Port) :
    (s.ports.get q).pins.length + s.pendingCount q ≤ s.pinCount q := by
  unfold State.pinCount
  split
  · next hnone => rw [pendingCount_eq_zero hnone]
  · exact Nat.add_le_add_left (h.counts q).1 _

theorem ring_judgePinSweep (q : Port) (body : List Byte) : KeepsRing s (judgePinSweep q body s).1 := by
  refine ring_checked s _ _ _ ?_
  split
  · exact .refl s
  · next r hr =>
    split
    · exact .refl s
    · split
      · exact .refl s
      · next hlimit =>
        intro hs
        have hlimit : s.pinCount q < 2 := not_le.1 hlimit
        have hcount := pendingCount_le_pinCount hs q
        refine ring_modifyPins ?_ (fun n hn => ?_) hs
        · rw [List.length_append, List.length_singleton]
          omega
        · rcases List.mem_append.1 hn with hn | hn
          · exact hs.slots.pinned q n hn
          · rw [List.mem_singleton.1 hn]
            exact holds_of_named hr

theorem ring_judgeReadSweep (q : Port) (body : List Byte) : KeepsRing s (judgeReadSweep q body s).1 := by
  refine ring_checked s _ _ _ ?_
  split
  · split <;> exact .refl s
  · exact .refl s

theorem ring_judgeUnpinSweep (q : Port) (body : List Byte) : KeepsRing s (judgeUnpinSweep q body s).1 := by
  refine ring_checked s _ _ _ ?_
  split
  · intro hs
    have hfewer := List.length_filter_le (fun k => k != ofBytes body) (s.ports.get q).pins
    exact ring_modifyPins ((Nat.add_le_add_right hfewer _).trans (hs.counts q).2)
      (fun n hn => hs.slots.pinned q n (List.mem_filter.1 hn).1) hs
  · exact .refl s

/-! ### Every request, as a frame (R158 to R162) -/

theorem ring_judgeCode (c : Contacts) (q : Port) (code : Byte) (body : List Byte) :
    KeepsRing s (judgeCode c q code body s).1 := by
  unfold judgeCode
  generalize Request.ofCode code = request
  cases request with
  | none => exact .refl s
  | some r =>
    cases r with
    | readStatus => exact ring_checked s _ _ _ (.refl s)
    | readPosition => refine ring_checked s _ _ _ ?_; split <;> exact .refl s
    | readMap => exact ring_checked s _ _ _ (.refl s)
    | requestSweep => exact ring_judgeRequestSweep s q body
    | pinSweep => exact ring_judgePinSweep s q body
    | readSweep => exact ring_judgeReadSweep s q body
    | unpinSweep => exact ring_judgeUnpinSweep s q body
    | placeHold => exact ring_checked s _ _ _ (ring_holdRequest s _ q body)
    | releaseHold => exact ring_checked s _ _ _ (ring_holdRequest s _ q body)
    | clearFault =>
      refine ring_checked s _ _ _ ?_
      split
      · exact ring_clearFault s _
      · exact .refl s
    | clearSwitch =>
      refine ring_checked s _ _ _ ?_
      split
      · exact ring_clearSwitch s c _
      · exact .refl s
    | startLocate =>
      refine ring_checked s _ _ _ ?_
      split
      · exact .refl s
      · split
        · exact .refl s
        · exact ring_startWalk s _
    | readWalk => exact ring_checked s _ _ _ (.refl s)
    | fetchNotices => exact ring_checked s _ _ _ (ring_modifyPort s q (fun _ => rfl))
    | readSetting => refine ring_checked s _ _ _ ?_; split <;> exact .refl s
    | writeSetting =>
      refine ring_checked s _ _ _ ?_
      split
      · exact ring_writeApplied s c _ _ _ _
      · exact .refl s
    | saveSettings =>
      refine ring_checked s _ _ _ ?_
      split
      · exact .refl s
      · exact .of_eq rfl rfl
    | resetRatio =>
      refine ring_checked s _ _ _ ?_
      split
      · exact .of_eq rfl rfl
      · exact .refl s

theorem ring_toIdle (q : Port) : KeepsRing s (toIdle q s) := ring_modifyPort s q (fun _ => applyLink_pins _ _ _)

theorem ring_toAnswering (q : Port) : KeepsRing s (toAnswering q s) := ring_modifyPort s q (fun _ => rfl)

theorem ring_sendAnswer (q : Port) (station code : Byte) (reply : Reply) :
    KeepsRing reply.1 (sendAnswer q station code reply) := ring_modifyPort _ q (fun _ => rfl)

theorem ring_judgeFrame (q : Port) (station code : Byte) {f : State → Reply} (h : ∀ s, KeepsRing s (f s).1) :
    KeepsRing s (judgeFrame q station code f s) := by
  unfold judgeFrame
  split
  · exact ((ring_toAnswering s q).trans (h _)).trans (ring_sendAnswer q station code _)
  · exact ring_toIdle s q

theorem ring_receiveRequest (q : Port) (station code : Byte) (body : List Byte) {f : State → Reply}
    (h : ∀ s, KeepsRing s (f s).1) : KeepsRing s (receiveRequest q station code body f s) := by
  unfold receiveRequest
  split
  · exact ring_judgeFrame s q station code h
  · exact .refl s

theorem ring_receiving (q : Port) (got : List Byte) : KeepsRing s (receiving q got s) :=
  ring_modifyPort s q (fun _ => rfl)

theorem ring_takeChars (c : Contacts) (q : Port) (chars : List Byte) : KeepsRing s (takeChars c q chars s) := by
  unfold takeChars
  split
  · split
    · exact ring_toIdle s q
    · exact ring_receiving s q _
  · split
    · unfold judgeChars
      split
      · exact ring_judgeFrame s q _ _ (fun s => ring_judgeCode s c q _ _)
      · exact ring_toIdle s q
    · exact ring_receiving s q _

theorem ring_takeChar (c : Contacts) (q : Port) (char : Byte) : KeepsRing s (takeChar c q char s) := by
  unfold takeChar
  split
  · split
    · exact ring_receiving s q _
    · exact .refl s
  · exact ring_takeChars s c q _
  · exact .refl s

theorem ring_discardFrame (q : Port) : KeepsRing s (discardFrame q s) := by
  unfold discardFrame
  split
  · exact ring_toIdle s q
  · exact .refl s
  · exact .refl s

/-! ### Sweeps (R15 to R24) -/

theorem current_eq_some_iff {x : Sequencer} {run : Running} {r : SweepRecord} :
    x.current = some (run, r) ↔ x.running = some run ∧ x.slots.get run.slot = some r := by
  unfold Sequencer.current
  cases x.running with
  | none => simp
  | some run' =>
    simp only [Option.map_eq_some_iff, Prod.mk.injEq, Option.some.injEq]
    constructor
    · rintro ⟨k, hk, rfl, rfl⟩
      exact ⟨rfl, hk⟩
    · rintro ⟨rfl, hr⟩
      exact ⟨r, hr, rfl, rfl⟩

/-- A record written again with its number: what the slots hold stays held (R28). -/
theorem holds_rewritten {x y : Sequencer} {i : Fin 8} {r r' : SweepRecord} (hr : x.slots.get i = some r)
    (hy : y.slots = x.slots.set i (some r')) (hnumber : r'.number = r.number)
    (hassessed : r.assessed = true → r'.assessed = true) {n : Nat} (h : x.holds n) : y.holds n := by
  obtain ⟨j, k, hj, ha, rfl⟩ := h
  by_cases hji : j = i
  · subst hji
    rw [hr] at hj
    cases hj
    exact ⟨j, r', by rw [hy, get_set, if_pos rfl], hassessed ha, hnumber⟩
  · exact ⟨j, k, by rw [hy, get_set, if_neg hji, hj], ha, rfl⟩

theorem isSome_rewritten {x : Sequencer} {i : Fin 8} {r : SweepRecord} (hr : x.slots.get i = some r)
    (r' : SweepRecord) (j : Fin 8) :
    ((x.slots.set i (some r')).get j).isSome = (x.slots.get j).isSome := by
  rw [get_set]
  split
  · next h => rw [h, hr]; rfl
  · rfl

/-- Another slot than that of the running sweep holds no FILLING record (R27). -/
theorem slot_of_filling {s : State} (h : SlotLaws s) {run : Running} (hrun : s.seq.running = some run) {j : Fin 8} :
    (∃ r, s.seq.slots.get j = some r ∧ r.assessed = false) ↔ run.slot = j := by
  rw [h.filling j, hrun, Option.map_some, Option.some.injEq]

/-- The record of the running sweep grows in its slot (R17). -/
theorem ring_completeBurst (v : Samples) {run : Running} {r : SweepRecord} (hrun : s.seq.running = some run)
    (hr : s.seq.slots.get run.slot = some r) : KeepsRing s (completeBurst v run r s) := by
  refine KeepsRing.intro ?_
  rintro hcount hslots
  refine ⟨fun q => ?count, fun q n hn => ?pinned, fun j => ?filling, fun j => ?filled, hslots.nodup⟩
  case count =>
    have hsame : (completeBurst v run r s).pendingCount q = s.pendingCount q := by
      simp [State.pendingCount, runningOrigin_eq, completeBurst, get_set, hrun, hr]
    rw [hsame]
    exact hcount q
  case pinned =>
    exact holds_rewritten (r' := { r with entries := r.entries ++ [burstEntry v run.burstCondition] }) hr rfl rfl id
      (hslots.pinned q n hn)
  case filling =>
    have hold := slot_of_filling hslots hrun (j := j)
    simp only [completeBurst, get_set, Option.map_some, Option.some.injEq]
    by_cases hj : j = run.slot
    · subst hj
      obtain ⟨x, hx, hfilling⟩ := hold.2 rfl
      rw [hr] at hx
      cases hx
      rw [if_pos rfl]
      exact ⟨fun _ => rfl, fun _ => ⟨_, rfl, hfilling⟩⟩
    · rw [if_neg hj]
      exact hold
  case filled => exact (hslots.filled j).trans (by rw [← isSome_rewritten hr]; rfl)

/-- A completed sweep frees the converter; its record is ASSESSED (R19, R27). -/
theorem slotLaws_recordCompleted {run : Running} {r r' : SweepRecord} (h : SlotLaws s)
    (hrun : s.seq.running = some run) (hr : s.seq.slots.get run.slot = some r) (hnumber : r'.number = r.number)
    (hassessed : r'.assessed = true) : SlotLaws (recordCompleted r' run s) := by
  refine ⟨fun q n hn => ?pinned, fun j => ?filling, fun j => ?filled, h.nodup⟩
  case pinned => exact holds_rewritten hr rfl hnumber (fun _ => hassessed) (h.pinned q n hn)
  case filling =>
    have hold := slot_of_filling h hrun (j := j)
    simp only [recordCompleted, get_set]
    by_cases hj : j = run.slot
    · simp [hj, hassessed]
    · simp only [if_neg hj, hold, Option.map_none]
      exact ⟨fun h => absurd h.symm hj, fun h => nomatch h⟩
  case filled => exact (h.filled j).trans (by rw [← isSome_rewritten hr]; rfl)

/-- The sweep that has completed was pending for the port whose origin it has (R23). -/
theorem pendingCount_recordCompleted {s : State} {run : Running} {r : SweepRecord} (hrun : s.seq.running = some run)
    (hr : s.seq.slots.get run.slot = some r) (r' : SweepRecord) (q : Port) :
    (recordCompleted r' run s).pendingCount q + (if r.origin = portOrigin q then 1 else 0) = s.pendingCount q := by
  simp [State.pendingCount, runningOrigin_eq, recordCompleted, hrun, hr]

theorem ring_recordCompleted {run : Running} {r r' : SweepRecord}
    (hrun : s.seq.running = some run) (hr : s.seq.slots.get run.slot = some r) (hnumber : r'.number = r.number)
    (hassessed : r'.assessed = true) : KeepsRing s (recordCompleted r' run s) := by
  refine KeepsRing.intro ?_
  rintro hcount hslots
  refine ⟨fun q => ?_, slotLaws_recordCompleted s hslots hrun hr hnumber hassessed⟩
  obtain ⟨hone, htwo⟩ := hcount q
  rw [← pendingCount_recordCompleted hrun hr r' q] at hone htwo
  have hports : (recordCompleted r' run s).ports = s.ports := rfl
  rw [hports]
  constructor <;> omega

/-- The record of a completed requested sweep is pinned for its port, which has one pending sweep less (R24). -/
theorem ring_pinCompleted {run : Running} {r r' : SweepRecord} (hrun : s.seq.running = some run)
    (hr : s.seq.slots.get run.slot = some r) (hnumber : r'.number = r.number) (hassessed : r'.assessed = true)
    {q : Port} (hq : r.origin = portOrigin q) :
    KeepsRing s (modifyPort q (pinCompleted r'.number) (recordCompleted r' run s)) := by
  intro hs
  have hpending := pendingCount_recordCompleted hrun hr r' q
  have hlimit := (hs.counts q).2
  have hu := ring_recordCompleted s hrun hr hnumber hassessed hs
  refine ring_modifyPins ?limit (fun n hn => ?held) hu
  case limit =>
    have hlength : (pinCompleted r'.number ((recordCompleted r' run s).ports.get q)).pins.length
      = (s.ports.get q).pins.length + 1 := List.length_append
    rw [if_pos hq] at hpending
    omega
  case held =>
    rcases List.mem_append.1 hn with hn | hn
    · exact hu.slots.pinned q n hn
    · rw [List.mem_singleton.1 hn]
      exact ⟨run.slot, r', by simp [recordCompleted, get_set], hassessed, rfl⟩

theorem ring_learn (r : SweepRecord) : KeepsRing s (learn r s) := .of_eq rfl rfl

theorem ring_handRoutine (r : SweepRecord) (l : Nat) : KeepsRing s (handRoutine r l s) :=
  ((ring_learn s r).trans (.foldl _ (fun s p => ring_takePosition s r p) _ _)).trans (ring_takeLeakage _ l)

theorem ring_completeSweep {run : Running} {r : SweepRecord} (hrun : s.seq.running = some run)
    (hr : s.seq.slots.get run.slot = some r) (l : Nat) : KeepsRing s (completeSweep r run l s) := by
  have hrecord : KeepsRing s (recordCompleted (s.assess l r) run s) := ring_recordCompleted s hrun hr rfl rfl
  refine KeepsRing.trans ?_ (ring_startNext _)
  unfold handOver
  have horigin : (s.assess l r).origin = r.origin := rfl
  rw [horigin]
  cases ho : r.origin with
  | routine => exact hrecord.trans (ring_handRoutine _ _ l)
  | plant => exact ring_pinCompleted s hrun hr (r' := s.assess l r) rfl rfl (q := .linkP) ho
  | site => exact ring_pinCompleted s hrun hr (r' := s.assess l r) rfl rfl (q := .linkS) ho
  | service => exact ring_pinCompleted s hrun hr (r' := s.assess l r) rfl rfl (q := .service) ho
  | locate =>
    refine hrecord.trans ?_
    dsimp only
    split
    · exact ring_walkSweep _ l
    · exact .refl _

theorem ring_queueRoutine : KeepsRing s (queueRoutine s) :=
  (ring_waiting s s.seq.locateWaiting true s.seq.routineDue).trans (ring_startNext _)

theorem ring_rearmRoutine : KeepsRing s (rearmRoutine s) :=
  ring_waiting s s.seq.locateWaiting s.seq.routineWaiting _

theorem ring_advanceTo (t : Nat) : KeepsRing s (advanceTo t s) := .of_eq rfl rfl

/-! ### Safety, reset and the store -/

theorem ring_setSafety (a : SafetyState) (due : Option Nat) (b : Bool) : KeepsRing s (setSafety a due b s) :=
  .of_eq rfl rfl

theorem ring_trip : KeepsRing s (trip s) :=
  (((ring_setSafety s _ _ _).trans (ring_changeHolder _ _ _ _ _)).trans (ring_emit _ _ _ _ _)).trans
    (ring_abandonWalk _)

theorem ring_restore : KeepsRing s (restore s) :=
  (((ring_setSafety s _ _ _).trans (ring_changeHolder _ _ _ _ _)).trans (ring_emit _ _ _ _ _)).trans
    (ring_reclosingAfter _ _ _ _ _)

theorem ring_startWrite : KeepsRing s (startWrite s) := .of_eq (by simp) (by simp)

theorem ring_snapshotRatios : KeepsRing s (snapshotRatios s) := .of_eq rfl rfl

theorem ring_endSave (k : CopyName) (c : Copy Settings) (good : Bool) : KeepsRing s (endSave k c good s) :=
  .of_eq rfl rfl

theorem ring_endRetained (k : CopyName) (c : Copy Retained) (good : Bool) : KeepsRing s (endRetained k c good s) := by
  unfold endRetained
  dsimp only
  split
  · exact .of_eq rfl rfl
  · exact .of_eq (by simp) (by simp)

/-- RESET frees every slot and leaves no pin and no sweep waiting (R36). -/
theorem ring_startUp (c : Contacts) (loopClosed keyOn : Bool) : RingLaws (startUp c loopClosed keyOn s) := by
  refine (ring_takeTargets _ _).trans (ring_formBatch _) ?_
  refine ⟨fun q => by cases q <;> exact ⟨Nat.zero_le 1, Nat.zero_le 2⟩, fun q n hn => ?_, fun i => ?_, fun i => ?_,
    List.nodup_nil⟩
  · cases q <;> cases hn
  · simp [startState, Sequencer.afterReset]
  · simp [startState, Sequencer.afterReset]

end

/-! ### Every command -/

/-- Whatever state an outcome leads to, the laws of the ring are kept there. -/
def RingKeptBy (s : State) (o : Host.Outcome State Fault Refusal) : Prop := ∀ t, o = .next t → KeepsRing s t

theorem RingKeptBy.next {s t : State} (h : KeepsRing s t) : RingKeptBy s (.next t) := by
  intro u hu
  cases hu
  exact h

/-- An event's end keeps the laws where the operation before it does (R110, R170). -/
theorem RingKeptBy.concluded {s t : State} (h : KeepsRing s t) : RingKeptBy s (.next (conclude s t)) :=
  .next (h.trans (ring_conclude _ s))

theorem RingKeptBy.stay (s : State) : RingKeptBy s (.next s) := .next (.refl s)

theorem RingKeptBy.ite {s : State} {c : Prop} [Decidable c] {o o' : Host.Outcome State Fault Refusal}
    (h : RingKeptBy s o) (h' : RingKeptBy s o') : RingKeptBy s (if c then o else o') := by
  split
  · exact h
  · exact h'

theorem ring_request {c : Instr} {f : RequestFrame} (h : requestOf c = some f) (s : State) :
    RingKeptBy s (exec c s) := by
  have hreceive := ring_receiveRequest s f.port f.station f.code f.body
    (fun s => ring_judgeCode s f.contacts f.port f.code f.body)
  rcases exec_request h s with he | he
  · rw [he]; exact .next hreceive
  · rw [he]; exact .concluded hreceive

theorem ring_execChannelBurstComplete (s : State) (v : Samples) : RingKeptBy s (execChannelBurstComplete v s) := by
  unfold execChannelBurstComplete
  split
  · next hcurrent =>
    obtain ⟨hrun, hr⟩ := current_eq_some_iff.1 hcurrent
    exact .ite (.next (ring_completeBurst s v hrun hr)) (.stay s)
  · exact .stay s

theorem ring_execSweepComplete (s : State) (v : Samples) : RingKeptBy s (execSweepComplete v s) := by
  unfold execSweepComplete
  split
  · next hcurrent =>
    obtain ⟨hrun, hr⟩ := current_eq_some_iff.1 hcurrent
    exact .ite (.concluded (ring_completeSweep s hrun hr _)) (.stay s)
  · exact .stay s

theorem ring_enterMeasuring (s : State) : KeepsRing s (enterMeasuring s) :=
  (ring_setWalk s _).trans (ring_requestLocate _)

/-- Every command that is no request row keeps the laws of the ring. -/
theorem ring_event {c : Instr} (h : requestOf c = none) (s : State) : RingKeptBy s (exec c s) := by
  cases c with
  | frameDiscarded q => exact .ite (.next (ring_toIdle s q)) (.stay s)
  | lengthDiscard q => exact .ite (.next (ring_toIdle s q)) (.stay s)
  | characterGapTimeout q => exact .next (ring_discardFrame s q)
  | characterError q => exact .next (ring_discardFrame s q)
  | answerSent q =>
    simp only [exec, execAnswerSent]
    split
    · exact .next (ring_toIdle s q)
    · exact .stay s
    · exact .stay s
  | reset c loopClosed keyOn => exact .next (fun _ => ring_startUp s c loopClosed keyOn)
  | loopOpening =>
    simp only [exec, execLoopOpening]
    split
    · exact .concluded (ring_trip s)
    · exact .next (ring_setSafety s _ _ _)
    · exact .stay s
  | loopClosing =>
    simp only [exec, execLoopClosing]
    split
    · exact .next (ring_setSafety s _ _ _)
    · exact .stay s
    · exact .stay s
  | restoreTimerExpiry =>
    simp only [exec, execRestoreTimerExpiry]
    split
    · exact .concluded ((ring_advanceTo s _).trans (ring_restore _))
    · exact .stay s
  | keyChange => exact .next (.of_eq rfl rfl)
  | routineTimerExpiry =>
    have hrearm := (ring_advanceTo s (s.seq.routineDue * 1000)).trans (ring_rearmRoutine _)
    exact .ite (.next hrearm) (.next (hrearm.trans (ring_queueRoutine _)))
  | sweepStart => exact .next (ring_startNext s)
  | channelBurstComplete v => exact ring_execChannelBurstComplete s v
  | sweepComplete v => exact ring_execSweepComplete s v
  | declaration p c => exact .ite (.concluded (ring_countAbnormal s p c)) (.stay s)
  | suspicionAbandoned p => exact .ite (.next (ring_holdSuspicion s p)) (.stay s)
  | recheckTimerExpiry p => exact .ite (.concluded (ring_recheckExpired s p)) (.stay s)
  | trialSuccess p => exact .ite (.next (ring_confirmTrial s p)) (.stay s)
  | reportedRecovery p => exact .ite (.next (ring_confirmRecovery s p)) (.stay s)
  | residualDebounceReached p => exact .ite (.concluded (ring_countResidual s p)) (.stay s)
  | leakageAlarmEntry l => exact .ite (.next (ring_takeLeakage s _)) (.stay s)
  | leakageAlarmClear l => exact .ite (.next (ring_takeLeakage s _)) (.stay s)
  | settleTimerExpiry =>
    simp only [exec, execSettleTimerExpiry]
    split
    · exact .next ((ring_advanceTo s _).trans (ring_enterMeasuring _))
    · exact .stay s
  | batchStart => exact .next (ring_formBatch s)
  | bypassSettleExpiry =>
    simp only [exec, execBypassSettleExpiry]
    split
    · exact .ite (.next (.of_eq rfl rfl)) (.stay s)
    · exact .stay s
  | coilPulseEnd =>
    simp only [exec, execCoilPulseEnd]
    split
    · exact .ite (.next (.of_eq rfl rfl)) (.ite (.next (.of_eq rfl rfl)) (.stay s))
    · exact .stay s
  | nonOverlapExpiry =>
    simp only [exec, execNonOverlapExpiry]
    split
    · exact .ite (.next (.of_eq rfl rfl)) (.stay s)
    · exact .stay s
  | batchCompletion c =>
    simp only [exec, execBatchCompletion]
    split
    · exact .ite (.concluded ((ring_advanceTo s _).trans (ring_completeBatch _ c _))) (.stay s)
    · exact .stay s
  | hourlyRatioMark =>
    exact .concluded (((ring_advanceTo s _).trans (ring_snapshotRatios _)).trans (ring_markRetained _))
  | saveWriteStart =>
    simp only [exec, execSaveWriteStart]
    split
    · exact .next (ring_startWrite s)
    · exact .stay s
  | saveComplete good =>
    simp only [exec, execSaveComplete]
    split
    · exact .next ((ring_endSave s _ _ _).trans (ring_startWrite _))
    · exact .stay s
  | retainedWriteStart =>
    simp only [exec, execRetainedWriteStart]
    split
    · exact .next (ring_startWrite s)
    · exact .stay s
  | retainedWriteComplete good =>
    simp only [exec, execRetainedWriteComplete]
    split
    · exact .next ((ring_endRetained s _ _ _).trans (ring_startWrite _))
    · exact .stay s
  | characterReceived q char c => exact .concluded (ring_takeChar s c q char)
  | unknownRequestCode q station code body =>
    have hknown : (Request.ofCode code).isSome = true := by
      by_contra hk
      rw [requestOf, if_neg hk] at h
      cases h
    simp only [exec, execUnknownRequestCode, if_pos hknown]
    exact .stay s
  | _ => cases h

/-- Settles O56: request rows and all other commands keep the laws. -/
theorem ringLawsKept : Obligations.RingLawsKept := by
  intro c s t hs he
  cases hc : requestOf c with
  | some f => exact ring_request hc s t he hs
  | none => exact ring_event hc s t he hs

end Sys2Proof.Machine
end

section
/-! PROOFS. Sweeps asked for and started (R21, R23, R25 to R29): what waits, what starts, and which slot it takes. -/

namespace Sys2Proof.Machine

/-! ### The start of a sweep -/

theorem startNext_busy {s : State} (h : s.seq.running ≠ none) : startNext s = s := by
  unfold startNext
  split
  · contradiction
  · rfl

theorem startNext_none_waiting {s : State} (hl : s.seq.locateWaiting = false) (hr : s.seq.routineWaiting = false)
    (hq : s.seq.requested = []) : startNext s = s := by
  unfold startNext
  split
  · rw [hl, hr, hq]
    rfl
  · rfl

section
variable {s : State} {i : Fin 8} (hidle : s.seq.running = none) (hi : s.chooseSlot = some i)
include hidle hi

theorem startNext_locate (hl : s.seq.locateWaiting = true) :
    startNext s = beginSweep .locate true i { s with seq := { s.seq with locateWaiting := false } } := by
  unfold startNext
  rw [hidle, hi]
  simp only [hl, if_true]

theorem startNext_routine (hl : s.seq.locateWaiting = false) (hr : s.seq.routineWaiting = true) :
    startNext s = beginSweep .routine false i { s with seq := { s.seq with routineWaiting := false } } := by
  unfold startNext
  rw [hidle, hi]
  simp [hl, hr]

theorem startNext_requested {q : Port} {rest : List Port} (hl : s.seq.locateWaiting = false)
    (hr : s.seq.routineWaiting = false) (hq : s.seq.requested = q :: rest) :
    startNext s = beginSweep (portOrigin q) false i { s with seq := { s.seq with requested := rest } } := by
  unfold startNext
  rw [hidle, hi]
  simp [hl, hr, hq]

end

theorem exec_sweepStart (s : State) : exec .sweepStart s = .next (startNext s) := rfl

/-- Settles O14: with the slot that R28 gives, the first sweep waiting begins. -/
theorem sweepStarts : Obligations.SweepStarts := by
  intro s
  rw [exec_sweepStart]
  constructor
  · rintro (hrun | ⟨hl, hr, hq⟩)
    · rw [startNext_busy hrun]
    · rw [startNext_none_waiting hl hr hq]
  · intro i free reusable starts hidle hslot
    have hi : s.chooseSlot = some i := by
      refine chooseSlot_eq s i (hslot.imp id ?_)
      rintro ⟨hfull, hreusable, before, later, horder, hbefore⟩
      exact ⟨hfull, (reusable_iff s i).2 hreusable, before, later, horder,
        fun j hj h => hbefore j hj ((reusable_iff s j).1 h)⟩
    exact ⟨fun hl => congrArg _ (startNext_locate hidle hi hl),
      fun hl hr => congrArg _ (startNext_routine hidle hi hl hr),
      fun q rest hl hr hq => congrArg _ (startNext_requested hidle hi hl hr hq)⟩

/-! ### Sweeps asked for -/

theorem judgeRequestSweep_eq (q : Port) (s : State) :
    judgeRequestSweep q [] s =
      if s.pendingSweep q ≠ 0 then accept [] s
      else if 2 ≤ (s.ports.get q).pins.length then refuse .limit s
      else accept [] (queueRequested q s) := by
  cases q <;> rfl

theorem toAnswering_queueRequested (q : Port) (s : State) :
    queueRequested q (toAnswering q s) = toAnswering q (queueRequested q s) :=
  toAnswering_startNext q { s with seq := { s.seq with requested := s.seq.requested ++ [q] } }

theorem exec_requestSweep {q : Port} {station : Byte} {s : State} (h : Ready q station 0x10 [] s) :
    exec (.requestSweep q station []) s = .next (takeRequest q station 0x10 (judgeRequestSweep q []) s) :=
  congrArg _ (receiveRequest_ready h _)

theorem routineStands_iff (s : State) :
    s.routineStands = true ↔ s.seq.routineWaiting = true ∨ s.runningOrigin = some .routine := by
  simp [State.routineStands]

/-- Settles O13: a request is judged by what is pending and pinned, a timer expiry by whether a ROUTINE sweep stands. -/
theorem sweepsQueued : Obligations.SweepsQueued := by
  constructor
  · intro q station s hr
    rw [exec_requestSweep hr]
    have hpending : (toAnswering q s).pendingSweep q ≠ 0
        ↔ s.runningOrigin = some (portOrigin q) ∨ q ∈ s.seq.requested := pendingSweep_iff (toAnswering q s) q
    have hpins : ((toAnswering q s).ports.get q).pins = (s.ports.get q).pins := by simp [toAnswering]
    refine ⟨fun hp => ?pending, fun hrun hq hlimit => ?limit, fun hrun hq hlimit => ⟨queueRequested q s, rfl, ?queued⟩⟩
    case pending =>
      rw [takeRequest_quiet]
      rw [judgeRequestSweep_eq, if_pos (hpending.2 hp)]
      rfl
    case limit =>
      rw [takeRequest_quiet]
      rw [judgeRequestSweep_eq, if_neg (fun h => (hpending.1 h).elim hrun hq), hpins, if_pos hlimit]
      rfl
    case queued =>
      rw [takeRequest_change]
      rw [judgeRequestSweep_eq, if_neg (fun h => (hpending.1 h).elim hrun hq), hpins, if_neg (not_le.2 hlimit),
        toAnswering_queueRequested]
      rfl
  · intro s w
    constructor
    · intro h
      exact if_pos ((routineStands_iff s).2 h)
    · intro hw hrun
      have hstands : ¬ s.routineStands = true := fun h =>
        ((routineStands_iff s).1 h).elim (fun h => by rw [hw] at h; cases h) hrun
      exact ⟨_, rfl, if_neg hstands⟩

/-! ### LOCATE sweeps asked for by the walk -/

theorem locateStands_iff (x : Sequencer) :
    x.locateStands = true ↔ x.locateWaiting = true ∨ ∃ run, x.running = some run ∧ run.forWalk = true := by
  unfold Sequencer.locateStands
  cases x.running with
  | none => simp
  | some run => simp

/-- A LOCATE sweep asked for is the one that stands, or it waits and starts when the converter is free (R25). -/
theorem requestLocate_spec (s : State) :
    ((s.seq.locateWaiting = true ∨ ∃ run, s.seq.running = some run ∧ run.forWalk = true) → requestLocate s = s)
      ∧ (¬ (s.seq.locateWaiting = true ∨ ∃ run, s.seq.running = some run ∧ run.forWalk = true) →
        exec .sweepStart { s with seq := { s.seq with locateWaiting := true } } = .next (requestLocate s)) := by
  rw [← locateStands_iff]
  constructor
  · exact fun h => if_pos h
  · intro h
    rw [exec_sweepStart, requestLocate, if_neg h]

/-- Settles O50: both moves of the walk are a new walk record and a LOCATE sweep asked for. -/
theorem walkGoesOn : Obligations.WalkGoesOn := by
  intro s stands asks
  have hasks (w : Walk) (now : Nat) : asks w now (requestLocate { s with walk := w, now := now }) :=
    requestLocate_spec { s with walk := w, now := now }
  refine ⟨fun h => ?next, fun h => if_neg (not_lt.2 h), fun due hstate hdue => ?settled⟩
  case next =>
    rw [nextCandidate, if_pos h]
    exact hasks _ _
  case settled =>
    refine ⟨enterMeasuring (advanceTo due s), ?_, hasks _ _⟩
    simp only [exec, execSettleTimerExpiry, hstate, hdue]

end Sys2Proof.Machine
end

section
/-! PROOFS. Bursts and completions (R15 to R19, R24, R37): the means and flags of a burst, the entries an assessment
writes, and what each origin's hand-over leaves. -/

namespace Sys2Proof.Machine

/-! ### Means and flags (R17, R18) -/

/-- An eighth rounded to nearest, ties away from zero, lies within half a unit, and beyond the tie. -/
theorem roundAway_eight (n : Int) :
    |8 * roundAway n 8 - n| ≤ 4 ∧ (|8 * roundAway n 8 - n| = 4 → |n| < |8 * roundAway n 8|) := by
  unfold roundAway
  split
  · next h =>
    rw [abs_of_nonneg h, abs_of_nonneg (by omega : 0 ≤ 8 * ((2 * n + 8) / (2 * 8)))]
    exact ⟨abs_le.2 ⟨by omega, by omega⟩, fun he => by rcases abs_eq (by omega) |>.1 he with he | he <;> omega⟩
  · next h =>
    rw [abs_of_neg (not_le.1 h), abs_of_nonpos (by omega : 8 * -((2 * -n + 8) / (2 * 8)) ≤ 0)]
    exact ⟨abs_le.2 ⟨by omega, by omega⟩, fun he => by rcases abs_eq (by omega) |>.1 he with he | he <;> omega⟩

theorem sampled_iff (v : Samples) (n : Int) :
    v.toList.any (fun x => x.toInt = n) = true ↔ ∃ x ∈ v.toList, x.toInt = n := by
  simp only [List.any_eq_true, decide_eq_true_eq]

/-- A sample at the upper end of the range comes before one at the lower end (R17). -/
theorem saturationOf_cases (v : Samples) :
    (saturationOf v = .plus ∧ ∃ x ∈ v.toList, x.toInt = 2047)
      ∨ ((¬ ∃ x ∈ v.toList, x.toInt = 2047)
        ∧ ((saturationOf v = .minus ∧ ∃ x ∈ v.toList, x.toInt = -2048)
          ∨ (saturationOf v = .none ∧ ¬ ∃ x ∈ v.toList, x.toInt = -2048))) := by
  unfold saturationOf
  simp only [sampled_iff]
  by_cases hplus : ∃ x ∈ v.toList, x.toInt = 2047
  · exact .inl ⟨if_pos hplus, hplus⟩
  · rw [if_neg hplus]
    by_cases hminus : ∃ x ∈ v.toList, x.toInt = -2048
    · exact .inr ⟨hplus, .inl ⟨if_pos hminus, hminus⟩⟩
    · exact .inr ⟨hplus, .inr ⟨if_neg hminus, hminus⟩⟩

theorem saturationOf_plus (v : Samples) : saturationOf v = .plus ↔ ∃ x ∈ v.toList, x.toInt = 2047 := by
  rcases saturationOf_cases v with ⟨hv, hplus⟩ | ⟨hplus, ⟨hv, _⟩ | ⟨hv, _⟩⟩ <;> rw [hv]
  · exact ⟨fun _ => hplus, fun _ => rfl⟩
  · exact ⟨nofun, fun h => absurd h hplus⟩
  · exact ⟨nofun, fun h => absurd h hplus⟩

theorem saturationOf_minus (v : Samples) :
    saturationOf v = .minus ↔ (∃ x ∈ v.toList, x.toInt = -2048) ∧ ∀ x ∈ v.toList, x.toInt ≠ 2047 := by
  have hforall : (∀ x ∈ v.toList, x.toInt ≠ 2047) ↔ ¬ ∃ x ∈ v.toList, x.toInt = 2047 := by push Not; rfl
  rw [hforall]
  rcases saturationOf_cases v with ⟨hv, hplus⟩ | ⟨hplus, ⟨hv, hminus⟩ | ⟨hv, hminus⟩⟩ <;> rw [hv]
  · exact ⟨nofun, fun h => absurd hplus h.2⟩
  · exact ⟨fun _ => ⟨hminus, hplus⟩, fun _ => rfl⟩
  · exact ⟨nofun, fun h => absurd h.1 hminus⟩

/-- The leakage mean is the eighth of the sum rounded to nearest, ties upward (R18). -/
theorem leakageMean_eq {v : Samples} {l : Nat} (hle : 8 * l ≤ (v.toList.map BitVec.toNat).sum + 4)
    (hlt : (v.toList.map BitVec.toNat).sum + 4 < 8 * l + 8) : leakageMean v = l := by
  unfold leakageMean
  omega

/-! ### A burst recorded -/

/-- Settles O15: the mean and the flag are those of R17, and the entry goes to the record of the running sweep. -/
theorem burstRecorded : Obligations.BurstRecorded := by
  intro v s i c w r hrun hr hlt sum
  obtain ⟨hnear, htie⟩ := roundAway_eight sum
  refine ⟨stringMean v, saturationOf v, hnear, htie, saturationOf_plus v, saturationOf_minus v, ?_⟩
  simp only [exec, execChannelBurstComplete, current_eq_some_iff.2 ⟨hrun, hr⟩, if_pos hlt]
  rfl

/-! ### The assessed record (R37, R38) -/

theorem assessEntry_cls (st : Settings) (groups : Fin 6 → GroupEntry) (ratio : Nat) (p : Pos) (e : PosEntry) :
    (assessEntry st groups ratio p e).cls.isSome = true := by
  unfold assessEntry
  split
  · rfl
  · unfold assessRelative
    split
    · rfl
    · split
      · rfl
      · split <;> rfl

/-- An assessed record has an entry with a class for each position (R37). -/
theorem assess_entry (s : State) (l : Nat) (r : SweepRecord) (p : Pos) :
    ∃ k, (s.assess l r).entries[p.val]? = some ((s.assess l r).entry p) ∧ ((s.assess l r).entry p).cls = some k := by
  have hget : ∃ e, (s.assess l r).entries[p.val]? = some e ∧ e.cls.isSome = true := by
    refine ⟨_, ?_, assessEntry_cls s.settings
      (fun g => (s.assessGroups r).getD g.val ⟨0, 0, none, false⟩) (s.pos p).ratio p (r.entry p)⟩
    simp [State.assess, Pos.all]
  obtain ⟨e, he, hcls⟩ := hget
  have hentry : (s.assess l r).entry p = e := by
    simp [SweepRecord.entry, List.getD_eq_getElem?_getD, he]
  obtain ⟨k, hk⟩ := Option.isSome_iff_exists.1 hcls
  exact ⟨k, by rw [hentry, he], by rw [hentry, hk]⟩

/-! ### Completions -/

theorem exec_sweepComplete {v : Samples} {s : State} {run : Running} {r : SweepRecord}
    (hrun : s.seq.running = some run) (hr : s.seq.slots.get run.slot = some r) (hfull : r.entries.length = 24) :
    exec (.sweepComplete v) s = .next (conclude s (completeSweep r run (leakageMean v) s)) := by
  simp only [exec, execSweepComplete, current_eq_some_iff.2 ⟨hrun, hr⟩, if_pos hfull]

/-- A completion that touches neither drive nor store ends with the next sweep's start. -/
theorem conclude_startNext {s t : State} (hdrive : t.drive = s.drive) (hstore : t.store = s.store) :
    conclude s (startNext t) = startNext t :=
  conclude_id ((startNext_drive t).trans hdrive) ((startNext_store t).trans hstore)

theorem handOver_requested {r : SweepRecord} {q : Port} (hq : r.origin = portOrigin q) (run : Running) (l : Nat)
    (s : State) : handOver r run l s = modifyPort q (pinCompleted r.number) s := by
  unfold handOver
  rw [hq]
  cases q <;> rfl

/-- Settles O16: the completion's hand-over by origin; those that touch neither drive nor store end as they are. -/
theorem sweepCompletes : Obligations.SweepCompletes := by
  intro v s i c w r l hrun hr hfull hle hlt u
  have hexec := exec_sweepComplete (v := v) hrun hr hfull
  rw [leakageMean_eq hle hlt, completeSweep] at hexec
  have hu : recordCompleted (s.assess l r) ⟨i, c, w⟩ s = u := rfl
  rw [hu] at hexec
  refine ⟨fun q hq => ?requested, fun ho hw => ?ended, fun ho hw => ?walk, fun ho => ?routine, fun p => ?position⟩
  case requested =>
    intro x y
    rw [handOver_requested (r := s.assess l r) hq] at hexec
    exact hexec.trans (congrArg _ (conclude_startNext rfl rfl))
  case ended =>
    have hover : handOver (s.assess l r) ⟨i, c, w⟩ l u = u := by
      simp only [handOver, show (s.assess l r).origin = .locate from ho, hw]
      rfl
    rw [hover] at hexec
    exact hexec.trans (congrArg _ (conclude_startNext rfl rfl))
  case walk =>
    have hover : handOver (s.assess l r) ⟨i, c, w⟩ l u = walkSweep l u := by
      simp only [handOver, show (s.assess l r).origin = .locate from ho, hw]
      rfl
    rw [hexec, hover]
  case routine =>
    have hover : handOver (s.assess l r) ⟨i, c, w⟩ l u = handRoutine (s.assess l r) l u := by
      simp only [handOver, show (s.assess l r).origin = .routine from ho]
    rw [hexec, hover]
    rfl
  case position =>
    obtain ⟨k, hentry, hcls⟩ := assess_entry s l r p
    refine ⟨_, k, hentry, hcls, fun x => ?_⟩
    rw [takePosition, SweepRecord.cls, hcls]
    rfl

end Sys2Proof.Machine
end

section
/-! PROOFS. Pins placed, removed and read (R30 to R35): the judging of the three requests on the record a number
names. -/

namespace Sys2Proof.Machine

/-- A request permitted on its port, with a body of its form and no need of the key, comes to its own judgement
(R162). -/
theorem checked_passes {r : Request} {q : Port} {ok : Bool} (hpermitted : r.permitted q = true) (hok : ok = true)
    (hkey : r.needsKey q = false) (f : State → Reply) (s : State) : checked r q ok f s = f s := by
  simp [checked, hpermitted, hok, hkey]

/-! ### Pin Sweep (R30) -/

section
variable {q : Port} {station : Byte} {body : List Byte} {s : State} (hbody : body.length = 4)
include hbody

theorem judgePinSweep_none (h : s.seq.named (ofBytes body) = none) : judgePinSweep q body s = (s, [0x06]) := by
  rw [judgePinSweep, checked_passes (by cases q <;> rfl) (by simp [hbody]) (by cases q <;> rfl), h]
  rfl

theorem judgePinSweep_some {r : SweepRecord} (h : s.seq.named (ofBytes body) = some r) :
    judgePinSweep q body s =
      if r.number ∈ (s.ports.get q).pins then (s, 0x00 :: bytes4 r.number)
      else if 2 ≤ s.pinCount q then (s, [0x05])
      else (addPin q r.number s, 0x00 :: bytes4 r.number) := by
  rw [judgePinSweep, checked_passes (by cases q <;> rfl) (by simp [hbody]) (by cases q <;> rfl), h]
  rfl

variable (hr : Ready q station 0x11 body s)
include hr

theorem exec_pinSweep_none (h : s.seq.named (ofBytes body) = none) :
    exec (.pinSweep q station body) s = .next (answered q station 0x11 [0x06] s) := by
  have hreceive := receiveRequest_ready hr (judgePinSweep q body)
  rw [takeRequest_quiet (judgePinSweep_none (s := toAnswering q s) hbody h)] at hreceive
  exact congrArg _ hreceive

theorem exec_pinSweep_some {r : SweepRecord} (h : s.seq.named (ofBytes body) = some r) :
    let pins := (s.ports.get q).pins
    (r.number ∈ pins →
        exec (.pinSweep q station body) s = .next (answered q station 0x11 (0x00 :: bytes4 r.number) s))
      ∧ (r.number ∉ pins → 2 ≤ s.pinCount q →
        exec (.pinSweep q station body) s = .next (answered q station 0x11 [0x05] s))
      ∧ (r.number ∉ pins → s.pinCount q < 2 →
        exec (.pinSweep q station body) s
          = .next (answered q station 0x11 (0x00 :: bytes4 r.number) (addPin q r.number s))) := by
  intro pins
  have hexec : exec (.pinSweep q station body) s = .next (takeRequest q station 0x11 (judgePinSweep q body) s) :=
    congrArg _ (receiveRequest_ready hr _)
  have hjudge := judgePinSweep_some (q := q) (s := toAnswering q s) hbody h
  have hpins : ((toAnswering q s).ports.get q).pins = pins := by simp [toAnswering, pins]
  have hcount : (toAnswering q s).pinCount q = s.pinCount q := by
    rw [State.pinCount, hpins]
    rfl
  rw [hpins, hcount] at hjudge
  rw [hexec]
  refine ⟨fun hin => ?_, fun hout hfull => ?_, fun hout hroom => ?_⟩
  · rw [if_pos hin] at hjudge
    rw [takeRequest_quiet hjudge]
  · rw [if_neg hout, if_pos hfull] at hjudge
    rw [takeRequest_quiet hjudge]
  · rw [if_neg hout, if_neg (not_le.2 hroom)] at hjudge
    have hadd : addPin q r.number (toAnswering q s) = toAnswering q (addPin q r.number s) := by
      simp only [addPin, toAnswering, modifyPort_modifyPort]
    rw [hadd] at hjudge
    rw [takeRequest_change hjudge]

end

/-! ### Unpin Sweep (R32) -/

theorem exec_unpinSweep {q : Port} {station : Byte} {body : List Byte} {s : State} (hbody : body.length = 4)
    (hr : Ready q station 0x13 body s) :
    exec (.unpinSweep q station body) s =
      .next (if ofBytes body ∈ (s.ports.get q).pins then answered q station 0x13 [0x00] (dropPin q (ofBytes body) s)
        else answered q station 0x13 [0x06] s) := by
  have hexec : exec (.unpinSweep q station body) s = .next (takeRequest q station 0x13 (judgeUnpinSweep q body) s) :=
    congrArg _ (receiveRequest_ready hr _)
  have hjudge (t : State) : judgeUnpinSweep q body t =
      if ofBytes body ∈ (t.ports.get q).pins then (dropPin q (ofBytes body) t, [0x00]) else (t, [0x06]) := by
    rw [judgeUnpinSweep, checked_passes (by cases q <;> rfl) (by simp [hbody]) (by cases q <;> rfl)]
    rfl
  have hpins : ((toAnswering q s).ports.get q).pins = (s.ports.get q).pins := by simp [toAnswering]
  rw [hexec]
  split
  · next hin =>
    rw [takeRequest_change]
    rw [hjudge, hpins, if_pos hin]
    simp only [dropPin, toAnswering, modifyPort_modifyPort]
  · next hout =>
    rw [takeRequest_quiet]
    rw [hjudge, hpins, if_neg hout]

/-- Settles O17: a Pin Sweep names a record by its number or as the latest; what follows turns on the port's pins. -/
theorem pinsChanged : Obligations.PinsChanged := by
  intro q station body s hbody n pins pinned pending
  refine ⟨fun hr m => ⟨fun hn hnot => ?unheld, fun hn hnone => ?empty, fun hm => ?named⟩, fun hr => ?unpin⟩
  case unheld =>
    refine exec_pinSweep_none hbody hr ?_
    rw [Sequencer.named, if_neg hn]
    exact find_not_holds s.seq n hnot
  case empty =>
    refine exec_pinSweep_none hbody hr ?_
    rw [Sequencer.named, if_pos hn]
    exact latest_none s.seq hnone
  case named =>
    have hrecord : ∃ r, s.seq.named n = some r ∧ r.number = m := by
      unfold Sequencer.named
      rcases hm with ⟨hn, rfl, hholds⟩ | ⟨hn, before, i, later, r, horder, hget, hassessed, hnumber, hlater⟩
      · rw [if_neg hn]
        exact find_holds s.seq n hholds
      · rw [if_pos hn]
        exact ⟨r, latest_last s.seq horder hget hassessed hlater, hnumber⟩
    obtain ⟨r, hnamed, rfl⟩ := hrecord
    have hpin := exec_pinSweep_some hbody hr hnamed
    rw [pinCount_eq] at hpin
    exact hpin
  case unpin =>
    rw [exec_unpinSweep hbody hr]
    exact ⟨fun hin => congrArg _ (if_pos hin), fun hout => congrArg _ (if_neg hout)⟩

/-! ### Read Sweep (R34, R35) -/

/-- A number held in one slot alone is found there. -/
theorem find_unique {x : Sequencer} {i : Fin 8} {r : SweepRecord} (hr : x.slots.get i = some r)
    (hassessed : r.assessed = true)
    (hone : ∀ j y, x.slots.get j = some y → y.assessed = true → y.number = r.number → j = i) :
    x.find r.number = some r := by
  obtain ⟨k, hk, hnumber⟩ := find_holds x r.number ⟨i, r, hr, hassessed, rfl⟩
  obtain ⟨j, _, hj⟩ := List.mem_filterMap.1 (List.mem_of_find?_eq_some hk)
  obtain ⟨hget, hk'⟩ := Option.filter_eq_some_iff.1 hj
  have hji := hone j k hget hk' hnumber
  rw [hji, hr] at hget
  cases hget
  exact hk

/-- What a Read Sweep answers after its Status, from the record of its number. -/
theorem judgeReadSweep_eq {q : Port} {number : List Byte} (hnumber : number.length = 4) {part : Byte} {k : Part}
    (hk : Part.ofCode part.toNat = some k) (s : State) :
    judgeReadSweep q (number ++ [part]) s =
      match s.seq.find (ofBytes number) with
      | some r =>
        if r.number ∈ (s.ports.get q).pins then (s, 0x00 :: bytes4 r.number ++ part :: partBytes r k) else (s, [0x06])
      | none => (s, [0x06]) := by
  have hbody : sweepAndPart (number ++ [part]) = (ofBytes number, part.toNat) := by
    simp [sweepAndPart, ← hnumber, ofBytes]
  have hbyte : byte part.toNat = part := by simp [byte]
  rw [judgeReadSweep, checked_passes (by cases q <;> rfl) (by simp [hnumber, hbody, hk]) (by cases q <;> rfl), hbody,
    hk, hbyte]
  cases s.seq.find (ofBytes number) <;> rfl

/-- The fields of Table 2-5, by the code of the part. -/
def partFields (r : SweepRecord) (part : Byte) : List Byte :=
  if part = 1 then byte r.origin.code :: bytes4 r.startUptime ++ bytes2 (r.leakage.getD 0) ++ [0x02]
  else if part = 2 then ((r.entries.drop 0).take 8).flatMap posEntryBytes
  else if part = 3 then ((r.entries.drop 8).take 8).flatMap posEntryBytes
  else if part = 4 then ((r.entries.drop 16).take 8).flatMap posEntryBytes
  else r.groups.flatMap groupEntryBytes

theorem part_of_code {part : Byte} (hlow : 1 ≤ part.toNat) (hhigh : part.toNat ≤ 5) :
    part = 1 ∨ part = 2 ∨ part = 3 ∨ part = 4 ∨ part = 5 := by
  bv_omega

/-- Each of the five codes names a part, whose fields are those of Table 2-5 (R34). -/
theorem partBytes_eq {part : Byte} (hlow : 1 ≤ part.toNat) (hhigh : part.toNat ≤ 5) :
    ∃ k, Part.ofCode part.toNat = some k
      ∧ ∀ r : SweepRecord, r.assessed = true → partBytes r k = partFields r part := by
  rcases part_of_code hlow hhigh with rfl | rfl | rfl | rfl | rfl
  · exact ⟨.header, rfl, fun r hr => by simp only [partBytes, hr]; rfl⟩
  · exact ⟨.positions 0, rfl, fun r _ => rfl⟩
  · exact ⟨.positions 8, rfl, fun r _ => rfl⟩
  · exact ⟨.positions 16, rfl, fun r _ => rfl⟩
  · exact ⟨.groups, rfl, fun r _ => rfl⟩

/-- Settles O18: the record is found by its number, and answered where the port pins it. -/
theorem sweepPartsRead : Obligations.SweepPartsRead := by
  intro q station number part s hnumber hlow hhigh hr
  obtain ⟨k, hk, hfields⟩ := partBytes_eq hlow hhigh
  have hexec : exec (.readSweep q station (number ++ [part])) s
      = .next (takeRequest q station 0x12 (judgeReadSweep q (number ++ [part])) s) :=
    congrArg _ (receiveRequest_ready hr _)
  have hpins : ((toAnswering q s).ports.get q).pins = (s.ports.get q).pins := by simp [toAnswering]
  have hjudge := judgeReadSweep_eq (q := q) hnumber hk (toAnswering q s)
  rw [hpins, toAnswering_seq] at hjudge
  rw [hexec]
  constructor
  · intro hout
    rw [takeRequest_quiet]
    rw [hjudge]
    split
    · next r hfind =>
      have hrn : r.number = ofBytes number := by simpa using List.find?_some hfind
      rw [hrn, if_neg hout]
    · rfl
  · intro i r hin hget hassessed hrn hone positions
    rw [← hrn] at hin hone hjudge ⊢
    rw [find_unique hget hassessed hone] at hjudge
    dsimp only at hjudge
    rw [if_pos hin, hfields r hassessed] at hjudge
    rw [takeRequest_quiet hjudge, List.append_cons, List.cons_append]
    rfl

end Sys2Proof.Machine
end

section
/-! PROOFS. RESET outside the positions (R36, R128, R131, R136, R171, R172): what the first batch leaves alone, and the
queue and the batch it leaves. -/

namespace Sys2Proof.Machine

/-- The forming of a batch touches positions, sequencer and drive alone. -/
theorem formBatch_rest (s : State) :
    formBatch s =
      { s with
        positions := (formBatch s).positions, seq := (formBatch s).seq, drive := (formBatch s).drive } := by
  unfold formBatch
  split
  · exact startBatch_rest _ s
  · rfl

/-- With the converter free the forming of a batch leaves the sequencer as it is (R16). -/
theorem formBatch_seq_idle {s : State} (h : s.seq.running = none) : (formBatch s).seq = s.seq := by
  unfold formBatch
  split
  · exact setMoving_seq_idle _ _ h
  · rfl

/-- An image is loaded when it has a newer copy (R168, R171). -/
theorem load_isSome {α : Type} (im : Image α) : im.load.isSome = im.newer.isSome := by
  have hget : ∀ k, im.newer = some k → (im.get k).isSome = true := by
    obtain ⟨a, b⟩ := im
    intro k hk
    cases a with
    | none =>
      cases b with
      | none => cases hk
      | some b => cases hk; rfl
    | some a =>
      cases b with
      | none => cases hk; rfl
      | some b => cases k <;> rfl
  unfold Image.load
  cases hn : im.newer with
  | none => rfl
  | some k => simpa using hget k hn

section
variable (c : Contacts) (loopClosed keyOn : Bool) (st : Settings) (r : Retained) (s : State)

/-- Without a closed contact at a SWITCHED position the drive is idle (R110). -/
theorem firstBatch_drive_idle (h : closedPositions c st = []) :
    (formBatch (reconciled c loopClosed keyOn st r s)).drive = ⟨[], [], none⟩ := by
  rw [formBatch_none (.inr ((Drive.head_eq_none _).2 ?_))]
  · simp [reconciled, withOpens, h, startState, Drive.afterReset]
  · simp [reconciled, withOpens, h, startState, Drive.afterReset]

/-- The OPEN orders of the reconciliation carry the uptime 0 (R107). -/
theorem reconciled_openQ :
    (reconciled c loopClosed keyOn st r s).drive.openQ = (closedPositions c st).map (fun p => ⟨p, 0⟩) := by
  have huptime : (startState c loopClosed keyOn st r s).uptime = 0 := by simp [State.uptime, startState]
  rw [reconciled, withOpens, huptime]
  rfl

/-- The orders that the first batch takes are OPEN orders of CLOSED positions (R110, R120). -/
theorem firstBatch_takenOrders (g : Nat) :
    takenOrders g (reconciled c loopClosed keyOn st r s) =
      ((closedPositions c st).filter (fun p => decide (switchGroup p = g))).map (fun p => ⟨p, .opened, .closed⟩) := by
  have hclosed : ∀ p ∈ closedPositions c st, (startPosition c st r p).condition = .closed :=
    fun p hp => (startCondition_eq_closed c _ p).2 ((mem_closedPositions c st p).1 hp)
  have hcloseQ : (reconciled c loopClosed keyOn st r s).drive.closeQ = [] := rfl
  rw [takenOrders, reconciled_openQ, hcloseQ, List.filter_map, List.map_map]
  simp only [List.filter_nil, List.map_nil, List.append_nil]
  refine List.map_congr_left (fun p hp => ?_)
  simp only [Function.comp_apply, reconciled_pos, hclosed p (List.mem_filter.1 hp).1]

/-- The first batch takes the orders of the lowest switch group and waits for its bypass settle time; the others stay
queued (R110, R111). -/
theorem firstBatch_drive {lowest : Pos} {rest : List Pos} (h : closedPositions c st = lowest :: rest) :
    (formBatch (reconciled c loopClosed keyOn st r s)).drive =
      { openQ := ((closedPositions c st).filter (fun p => !decide (switchGroup p = switchGroup lowest))).map
          (fun p => ⟨p, 0⟩)
        closeQ := []
        batch := some
          { orders := ((closedPositions c st).filter (fun p => decide (switchGroup p = switchGroup lowest))).map
              (fun p => ⟨p, .opened, .closed⟩)
            start := 0
            bypassSettle := st.bypassSettle
            relayTravel := st.relayTravel
            nonOverlap := st.nonOverlap
            settled := false
            resetPulse := .due
            setPulse := .none } } := by
  have hhead : (reconciled c loopClosed keyOn st r s).drive.head = some ⟨lowest, 0⟩ := by
    rw [Drive.head_eq_some, reconciled_openQ, h]
    exact .inl rfl
  have htaken := firstBatch_takenOrders c loopClosed keyOn st r s (switchGroup lowest)
  have hopened : pulseFor .opened (takenOrders (switchGroup lowest) (reconciled c loopClosed keyOn st r s)) = .due := by
    rw [htaken, h]
    simp [pulseFor]
  have hclosed :
      pulseFor .closed (takenOrders (switchGroup lowest) (reconciled c loopClosed keyOn st r s)) = .none := by
    rw [htaken]
    simp [pulseFor]
  rw [formBatch_head rfl hhead, startBatch_drive, newBatch, hopened, hclosed, htaken, reconciled_openQ, List.filter_map]
  rfl

end

/-- Settles O4: the first batch changes drive and positions alone, and the rest is what the start-up sequence set. -/
theorem resetRest : Obligations.ResetRest := by
  intro c loopClosed keyOn s
  refine ⟨_, exec_reset c loopClosed keyOn s, ?_⟩
  generalize hst : settled s.store.loadedSettings s.store.loadedRetained = st
  generalize hr : s.store.loadedRetained = r
  have hrest := formBatch_rest (reconciled c loopClosed keyOn st r s)
  have hseq := formBatch_seq_idle (s := reconciled c loopClosed keyOn st r s) rfl
  have hidle := firstBatch_drive_idle c loopClosed keyOn st r s
  have hdrive {lowest rest} := firstBatch_drive c loopClosed keyOn st r s (lowest := lowest) (rest := rest)
  generalize formBatch (reconciled c loopClosed keyOn st r s) = t at hrest hseq hidle hdrive ⊢
  have hsettings : t.settings = st := by rw [hrest]; rfl
  have hrole (p : Pos) : t.role p = st.role.get p := by rw [State.role, hsettings]
  have hpositions : Pos.all.filter (fun p => decide (t.role p = .switched ∧ c.closed p = true))
      = closedPositions c st := by
    simp only [hrole]
    rfl
  rw [hpositions, hsettings]
  refine ⟨?pending, ?now, ?nextHour, ?key, ?settings, ?seq, ?safety, ?leakage, ?walk, ?ports, ?store, hidle,
    fun lowest rest h => hdrive h⟩
  case settings => rw [← hst]; rfl
  case seq => rw [hseq]; rfl
  case store =>
    rw [hrest, ← load_isSome, ← load_isSome, ← hr]
    rfl
  all_goals
    rw [hrest]
    rfl

end Sys2Proof.Machine
end

section
/-! PROOFS. The assessment of a record (R37 to R45): the first line of Table 3-2 that holds, the group entries and the
lower median. -/

namespace Sys2Proof.Machine

/-! ### The assessed record (R37, R38) -/

theorem entry_of_getElem? {r : SweepRecord} {p : Pos} {e : PosEntry} (h : r.entries[p.val]? = some e) :
    r.entry p = e := by
  simp [SweepRecord.entry, List.getD_eq_getElem?_getD, h]

theorem group_of_getElem? {r : SweepRecord} {g : Fin 6} {x : GroupEntry} (h : r.groups[g.val]? = some x) :
    r.group g = x := by
  simp [SweepRecord.group, List.getD_eq_getElem?_getD, h]

theorem assessGroups_getElem? (s : State) (r : SweepRecord) (g : Fin 6) :
    (s.assessGroups r)[g.val]? = some (assessGroup s.settings (fun p => (s.pos p).qual.state) r.entry g) := by
  simp [State.assessGroups]

/-- The group entry an assessed record keeps for a group is that of `assessGroup` on the state as it stands. -/
theorem assess_groups_getElem? (s : State) (l : Nat) (r : SweepRecord) (g : Fin 6) :
    (s.assess l r).groups[g.val]? = some (assessGroup s.settings (fun p => (s.pos p).qual.state) r.entry g) :=
  assessGroups_getElem? s r g

/-- The entry an assessed record keeps for a position is that of `assessEntry` on the group entries it keeps. -/
theorem assess_entries_getElem? (s : State) (l : Nat) {r : SweepRecord} {p : Pos} {e : PosEntry}
    (h : r.entries[p.val]? = some e) :
    (s.assess l r).entries[p.val]?
      = some (assessEntry s.settings (s.assess l r).group (s.pos p).ratio p e) := by
  rw [← entry_of_getElem? h]
  simp [State.assess, Pos.all]
  rfl

/-! ### Absolute classes (R39 to R41, Table 3-2) -/

theorem openAtSample_iff (c : Condition) :
    c.openAtSample = true ↔ c = .opened ∨ c = .jammedOpen ∨ c = .conductingOpen := by
  cases c <;> simp [Condition.openAtSample]

/-- The conditions that lines 6 and 7 of Table 3-2 judge are those that are neither moving nor open. -/
theorem conducting_iff (c : Condition) :
    (c = .closed ∨ c = .jammedClosed ∨ c = .absent) ↔ c ≠ .moving ∧ c.openAtSample = false := by
  cases c <;> simp [Condition.openAtSample]

section
variable {s : State} {p : Pos} {e : PosEntry}

theorem absoluteClass_unused (h : s.role p = .unused) : absoluteClass s.settings p e = some .unused := if_pos h

variable (hrole : s.role p ≠ .unused)
include hrole

theorem absoluteClass_excluded (h : s.settings.excluded.get p = true) :
    absoluteClass s.settings p e = some .excluded :=
  (if_neg hrole).trans (if_pos h)

/-- A position in use and not excluded is judged by the condition of its burst. -/
theorem absoluteClass_judged (hex : s.settings.excluded.get p = false) :
    absoluteClass s.settings p e =
      if e.condition = .moving then some .unsettled
      else if e.condition.openAtSample then
        if (s.settings.residualThreshold : Int) < |e.mean| then some .residual else some .isolated
      else if e.saturation = .plus ∨ (s.settings.overThreshold : Int) ≤ e.mean then some (.abnormal .over)
      else if e.saturation = .minus ∨ e.mean ≤ -(s.settings.reverseThreshold : Int) then some (.abnormal .reverse)
      else none :=
  (if_neg hrole).trans (if_neg (by simp [hex]))

end

theorem saturation_none_iff (x : Saturation) : x = .none ↔ x ≠ .plus ∧ x ≠ .minus := by cases x <;> simp

/-- No line of Table 3-2 but the last holds of a position exactly when it is pending relative. -/
theorem absoluteClass_eq_none (s : State) (p : Pos) (e : PosEntry) :
    absoluteClass s.settings p e = none ↔ PendingRelative s p e := by
  unfold PendingRelative
  rw [conducting_iff, saturation_none_iff]
  by_cases hrole : s.role p = .unused
  · simp [absoluteClass_unused hrole, hrole]
  cases hex : s.settings.excluded.get p with
  | true => simp [absoluteClass_excluded hrole hex]
  | false =>
    rw [absoluteClass_judged hrole hex]
    by_cases hmoving : e.condition = .moving
    · simp [hmoving]
    cases hopen : e.condition.openAtSample with
    | true => simp [hmoving, apply_ite (· = none)]
    | false =>
      simp only [hmoving, hrole, if_false, Bool.false_eq_true, ne_eq, not_false_eq_true, true_and, and_true]
      grind

theorem assess_absolute (l : Nat) {s : State} {r : SweepRecord} {p : Pos} {e : PosEntry} {k : Class}
    (he : r.entries[p.val]? = some e) (hk : absoluteClass s.settings p e = some k) :
    (s.assess l r).entries[p.val]? = some { e with cls := some k } := by
  rw [assess_entries_getElem? s l he, assessEntry, hk]

/-- Settles O19: the lines of Table 3-2 in their order, each past those before it. -/
theorem absoluteClasses : Obligations.AbsoluteClasses := by
  intro s l r p e he st classed isOpen
  refine ⟨fun hunused => assess_absolute l he (absoluteClass_unused hunused),
    fun hrole hex => assess_absolute l he (absoluteClass_excluded hrole hex), fun hrole hex => ?_⟩
  have hjudged := absoluteClass_judged (e := e) hrole hex
  have hopened (h : isOpen) : e.condition ≠ .moving ∧ e.condition.openAtSample = true :=
    ⟨by rintro hm; simp [isOpen, hm] at h, (openAtSample_iff _).2 h⟩
  refine ⟨fun hmoving => assess_absolute l he ?moving, fun hopen hmean => assess_absolute l he ?residual,
    fun hopen hmean => assess_absolute l he ?isolated, fun hcond => ?conducting⟩
  case moving => rw [hjudged, if_pos hmoving]
  case residual =>
    obtain ⟨hmoving, hsample⟩ := hopened hopen
    rw [hjudged, if_neg hmoving, if_pos hsample, if_pos hmean]
  case isolated =>
    obtain ⟨hmoving, hsample⟩ := hopened hopen
    rw [hjudged, if_neg hmoving, if_pos hsample, if_neg (not_lt.2 hmean)]
  case conducting =>
    obtain ⟨hmoving, hsample⟩ := (conducting_iff _).1 hcond
    rw [if_neg hmoving, if_neg (by simp [hsample])] at hjudged
    refine ⟨fun hover => assess_absolute l he ?_, fun hplus hmean hreverse => assess_absolute l he ?_⟩
    · rw [hjudged, if_pos hover]
    · rw [hjudged, if_neg (not_or.2 ⟨hplus, not_le.2 hmean⟩), if_pos hreverse]

/-! ### Group references (R42 to R45) -/

theorem eligible_iff (s : State) (es : Pos → PosEntry) (g : Fin 6) (p : Pos) :
    eligible s.settings (fun p => (s.pos p).qual.state) es g p = true ↔ EligibleMember s g p (es p) := by
  simp only [eligible, EligibleMember, groupNumber, Bool.and_eq_true, Bool.or_eq_true, beq_iff_eq,
    Option.isNone_iff_eq_none, absoluteClass_eq_none, State.role, and_assoc]

/-- A list of positions without repetition that a test describes counts as those of the 24 that pass it. -/
theorem perm_filter_all {ps : List Pos} (hnd : ps.Nodup) {f : Pos → Bool} (h : ∀ p, p ∈ ps ↔ f p = true) :
    ps.Perm (Pos.all.filter f) :=
  (List.perm_ext_iff_of_nodup hnd ((List.nodup_finRange 24).filter f)).2 fun p =>
    (h p).trans (List.mem_filter.trans (and_iff_right (Pos.mem_all p))).symm

/-- In ascending order, the value at an index has at most so many values below it, and more not above it. -/
theorem countP_sorted {l : List Int} (hs : l.Pairwise (· ≤ ·)) {k : Nat} {m : Int} (hm : l[k]? = some m) :
    l.countP (· < m) ≤ k ∧ k < l.countP (· ≤ m) := by
  induction l generalizing k with
  | nil => simp at hm
  | cons a l ih =>
    obtain ⟨hle, hs⟩ := List.pairwise_cons.1 hs
    cases k with
    | zero =>
      obtain rfl : a = m := by simpa using hm
      have hnone : l.countP (· < a) = 0 := List.countP_eq_zero.2 fun x hx => by simpa using hle x hx
      simp [hnone]
    | succ k =>
      have hm : l[k]? = some m := by simpa using hm
      have ham : a ≤ m := hle m (List.mem_of_getElem? hm)
      obtain ⟨hbelow, hupto⟩ := ih hs hm
      rw [List.countP_cons_of_pos (p := (· ≤ m)) (decide_eq_true ham), List.countP_cons]
      split <;> omega

theorem lowerMedian_few {means : List Int} (h : means.length < 3) : lowerMedian means = none := if_pos h

/-- The lower median by its rank among the means (R43). -/
theorem lowerMedian_rank {means : List Int} (h : 3 ≤ means.length) :
    ∃ m ∈ means, lowerMedian means = some m ∧ means.countP (· < m) ≤ (means.length - 1) / 2
      ∧ (means.length - 1) / 2 < means.countP (· ≤ m) := by
  have hperm := List.perm_insertionSort (fun a b : Int => a ≤ b) means
  obtain ⟨m, hm⟩ : ∃ m, (means.insertionSort (fun a b => a ≤ b))[(means.length - 1) / 2]? = some m :=
    ⟨_, List.getElem?_eq_getElem (by rw [hperm.length_eq]; omega)⟩
  have hrank := countP_sorted (List.pairwise_insertionSort (fun a b : Int => a ≤ b) means) hm
  rw [hperm.countP_eq, hperm.countP_eq] at hrank
  exact ⟨m, hperm.mem_iff.1 (List.mem_of_getElem? hm), (if_neg (not_lt.2 h)).trans hm, hrank⟩

/-- Settles O20: the counts are those of the members among the 24 positions, and the lower median has the middle rank
among the means of any list of the eligible ones. -/
theorem groupReferences : Obligations.GroupReferences := by
  intro s l r g members eligible hmembers hmember heligible hmem n entry
  have hgroup := assess_groups_getElem? s l r g
  have hcount : (Pos.all.filter fun p => s.settings.peerGroup.get p == groupNumber g).length = members.length :=
    (perm_filter_all hmembers fun p => (hmember p).trans beq_iff_eq.symm).length_eq.symm
  have hperm := perm_filter_all heligible fun p => (hmem p).trans (eligible_iff s r.entry g p).symm
  have hmeans := (hperm.map fun p => (r.entry p).mean).symm
  simp only [assessGroup, hcount] at hgroup
  generalize (Pos.all.filter _).map (fun p => (r.entry p).mean) = means at hmeans hgroup
  have hlength : means.length = n := by rw [hmeans.length_eq, List.length_map]
  rw [hlength] at hgroup
  refine ⟨fun hfew => ?few, fun henough => ?median⟩
  case few =>
    rw [lowerMedian_few (hlength ▸ hfew)] at hgroup
    exact hgroup
  case median =>
    obtain ⟨m, hm, hmedian, hbelow, hupto⟩ := lowerMedian_rank (hlength ▸ henough)
    rw [hmedian] at hgroup
    rw [hmeans.countP_eq, hlength, List.countP_map, List.countP_eq_length_filter] at hbelow hupto
    obtain ⟨p, hp, rfl⟩ := List.mem_map.1 (hmeans.mem_iff.1 hm)
    exact ⟨p, hp, hbelow, hupto, hgroup⟩

end Sys2Proof.Machine
end

section
/-! PROOFS. The relative classes (R46 to R50) and the learning step (R53, R54): each rounded quotient is the whole
number that its inequalities name. -/

namespace Sys2Proof.Machine

/-! ### Rounding and clamping (0.6) -/

theorem roundUp_eq {n d v : Int} (hd : 0 < d) (hle : 2 * d * v ≤ 2 * n + d) (hlt : 2 * n + d < 2 * d * v + 2 * d) :
    roundUp n d = v := by
  have hle : v * (2 * d) ≤ 2 * n + d := by linarith
  have hlt : 2 * n + d < (v + 1) * (2 * d) := by linarith
  exact Int.le_antisymm (Int.le_of_lt_add_one (Int.ediv_lt_of_lt_mul (by omega) hlt))
    ((Int.le_ediv_iff_mul_le (by omega)).2 hle)

/-- The whole number nearest to a quotient that is not negative, with a tie to the one further from zero. -/
theorem roundUp_of_near {n d v : Int} (hd : 0 < d) (hn : 0 ≤ n) (hnear : 2 * |d * v - n| ≤ d)
    (htie : 2 * |d * v - n| = d → |n| < |d * v|) : roundUp n d = v := by
  obtain ⟨hlow, hhigh⟩ := abs_le.1 (show |2 * (d * v - n)| ≤ d by rwa [abs_mul, abs_two])
  refine roundUp_eq hd (by linarith) (lt_of_not_ge fun hge => ?_)
  have hhalf : 2 * (d * v - n) = -d := by linarith
  have hfar := htie (by rw [← abs_two (α := Int), ← abs_mul, hhalf, abs_neg, abs_of_pos hd])
  have hv : 0 ≤ v := by
    by_contra hneg
    have : d * v ≤ d * (-1) := Int.mul_le_mul_of_nonneg_left (by omega) hd.le
    omega
  rw [abs_of_nonneg hn, abs_of_nonneg (mul_nonneg hd.le hv)] at hfar
  omega

theorem roundAway_eq {n d v : Int} (hd : 0 < d) (hnear : 2 * |d * v - n| ≤ d)
    (htie : 2 * |d * v - n| = d → |n| < |d * v|) : roundAway n d = v := by
  unfold roundAway
  split
  · next hn => exact roundUp_of_near hd hn hnear htie
  · next hn =>
    have hflip : |d * -v - -n| = |d * v - n| := by rw [← abs_neg]; congr 1; ring
    have hneg : roundUp (-n) d = -v := by
      refine roundUp_of_near hd (by omega) (hflip ▸ hnear) fun h => ?_
      rw [mul_neg, abs_neg, abs_neg]
      exact htie (hflip ▸ h)
    exact neg_eq_iff_eq_neg.2 hneg

theorem clamp_eq {lo hi : Int} (h : lo ≤ hi) (v : Int) : clamp lo hi v = max lo (min v hi) := by
  unfold clamp
  grind

/-! ### Relative classes (R46 to R50) -/

theorem groupIndex_zero {st : Settings} {p : Pos} (h : st.peerGroup.get p = 0) : groupIndex st p = none := by
  unfold groupIndex
  rw [h]
  decide

theorem groupIndex_succ {st : Settings} {p : Pos} {g : Fin 6} (h : st.peerGroup.get p = g.succ) :
    groupIndex st p = some g := by
  have hfind : ∀ g : Fin 6, (List.finRange 6).find? (fun k => g.succ == groupNumber k) = some g := by decide
  unfold groupIndex
  rw [h, hfind]

/-- A group with a median is dim when that lies below the light gate (R45). -/
theorem assessGroup_dim (st : Settings) (quals : Pos → QualState) (es : Pos → PosEntry) (g : Fin 6) {m : Int}
    (h : (assessGroup st quals es g).median = some m) :
    (assessGroup st quals es g).dim = decide (m < (st.lightGate : Int)) := by
  have hmedian : lowerMedian ((Pos.all.filter (eligible st quals es g)).map fun p => (es p).mean) = some m := h
  simp only [assessGroup, hmedian]

section
variable {st : Settings} {groups : Fin 6 → GroupEntry} {ratio : Nat} {p : Pos} {e : PosEntry}

theorem assessRelative_ungrouped (h : st.peerGroup.get p = 0) :
    assessRelative st groups ratio p e = { e with cls := some .noRef } := by
  rw [assessRelative, groupIndex_zero h]

variable {g : Fin 6} (hg : st.peerGroup.get p = g.succ)
include hg

theorem assessRelative_noReference (h : (groups g).median = none) :
    assessRelative st groups ratio p e = { e with cls := some .noRef } := by
  simp only [assessRelative, groupIndex_succ hg, h]

theorem assessRelative_reference {m : Int} (h : (groups g).median = some m) :
    assessRelative st groups ratio p e =
      if (groups g).dim then { e with cls := some .dim }
      else judge st e m (effectiveRatio (st.blendWeight.get g).val ratio) := by
  simp only [assessRelative, groupIndex_succ hg, h]

end

theorem effectiveRatio_eq {w r : Nat} {ratio : Int} (h : |3 * ratio - ((w : Int) * r + (3 - w) * 1024)| ≤ 1) :
    effectiveRatio w r = ratio := by
  obtain ⟨hlow, hhigh⟩ := abs_le.1 h
  exact roundUp_eq (by decide) (by linarith) (by linarith)

theorem expectedCurrent_eq {m e x : Int} (hle : 2048 * x ≤ 2 * (m * e) + 1024)
    (hlt : 2 * (m * e) + 1024 < 2048 * x + 2048) : expectedCurrent m e = min x 2047 := by
  rw [expectedCurrent, roundUp_eq (by decide) hle hlt]

theorem deviation_eq {i x d : Int} (hx : 0 < x) (hnear : 2 * |x * d - 1000 * (i - x)| ≤ x)
    (htie : 2 * |x * d - 1000 * (i - x)| = x → |1000 * (i - x)| < |x * d|) :
    deviation i x = max (-1000) (min d 999) := by
  rw [deviation, roundAway_eq hx hnear htie, clamp_eq (by decide)]

/-- What the assessment leaves of a position that no absolute class decides (R46). -/
theorem assess_relative (l : Nat) {s : State} {r : SweepRecord} {p : Pos} {e : PosEntry}
    (he : r.entries[p.val]? = some e) (h : PendingRelative s p e) :
    (s.assess l r).entries[p.val]?
      = some (assessRelative s.settings (s.assess l r).group (s.pos p).ratio p e) := by
  rw [assess_entries_getElem? s l he, assessEntry, (absoluteClass_eq_none s p e).2 h]

/-- Settles O21: without a reference the class is NO_REF, below the light gate DIM; else the three rounded quotients are
the numbers given, and the deviation has its class. -/
theorem relativeClasses : Obligations.RelativeClasses := by
  intro s l r p e he hpending after
  have hafter {x : PosEntry} (h : assessRelative s.settings (s.assess l r).group (s.pos p).ratio p e = x) : after x :=
    (assess_relative l he hpending).trans (congrArg some h)
  refine ⟨fun h => hafter (assessRelative_ungrouped h), ?_⟩
  intro g grp hg hgrp w
  have hgroup := group_of_getElem? hgrp
  refine ⟨fun hnone => hafter (assessRelative_noReference hg ((congrArg GroupEntry.median hgroup).trans hnone)), ?_⟩
  intro m hm
  have hdim : grp.dim = decide (m < (s.settings.lightGate : Int)) := by
    obtain rfl := Option.some.inj ((assess_groups_getElem? s l r g).symm.trans hgrp)
    exact assessGroup_dim _ _ _ g hm
  have hreference := assessRelative_reference (groups := (s.assess l r).group) (ratio := (s.pos p).ratio) (e := e) hg
    ((congrArg GroupEntry.median hgroup).trans hm)
  rw [hgroup, hdim] at hreference
  refine ⟨fun hlow => hafter (hreference.trans (if_pos (decide_eq_true hlow))), ?_⟩
  intro ratio x₀ d₀ hlight hratio hle hlt x n hx hnear htie d cls
  refine hafter (hreference.trans ?_)
  rw [if_neg (by simpa using hlight), effectiveRatio_eq hratio, judge, expectedCurrent_eq hle hlt,
    deviation_eq hx hnear htie]
  rfl

/-! ### The learning step (R53, R54) -/

theorem learns_iff (s : State) (r : SweepRecord) (p : Pos) :
    s.learns r p = true ↔ s.settings.learningEnable = true ∧ r.cls p = .normal ∧ (s.pos p).qual.state = .clear
      ∧ s.role p ≠ .unused := by
  simp [State.learns, and_assoc]

theorem nextRatio_stays {s : State} {r : SweepRecord} {p : Pos} (h : ¬ s.learns r p = true) :
    s.nextRatio r p = (s.pos p).ratio := by
  unfold State.nextRatio
  split
  · exact if_neg h
  · rfl

theorem nextRatio_learns {s : State} {r : SweepRecord} {p : Pos} {g : Fin 6} {m : Int} (h : s.learns r p = true)
    (hg : s.settings.peerGroup.get p = g.succ) (hm : (r.group g).median = some m) :
    s.nextRatio r p = learnedRatio (s.pos p).ratio (observedRatio (r.entry p).mean m) := by
  have hmedian : s.medianOf r p = some m := by simp only [State.medianOf, groupIndex_succ hg, hm]
  simp only [State.nextRatio, hmedian, if_pos h]

theorem observedRatio_eq {i m q : Int} (hm : 0 < m) (hle : 2 * m * q ≤ 2048 * i + m)
    (hlt : 2048 * i + m < 2 * m * q + 2 * m) : observedRatio i m = max 256 (min q 1280) := by
  rw [observedRatio, roundUp_eq (v := q) hm (by linarith) (by linarith), clamp_eq (by decide)]

theorem learnedRatio_eq (r : Nat) (q : Int) :
    learnedRatio r q = (max 256 (min ((r : Int) + (q - r).tdiv 32) 1280)).toNat := by
  rw [learnedRatio, clamp_eq (by decide)]

/-- Settles O22: each position keeps its class, and its ratio moves exactly where it learns. -/
theorem learningStep : Obligations.LearningStep := by
  intro s r u
  refine ⟨rfl, ?_⟩
  intro p x cls learns
  refine ⟨fun h => ?stays, fun g grp m q₀ h hg hgrp hm hpos hle hlt => ?moves⟩
  case stays =>
    rw [learn_pos, nextRatio_stays (mt (learns_iff s r p).1 h)]
    rfl
  case moves =>
    have hmedian := (congrArg GroupEntry.median (group_of_getElem? hgrp)).trans hm
    rw [learn_pos, nextRatio_learns ((learns_iff s r p).2 h) hg hmedian, observedRatio_eq hpos hle hlt, learnedRatio_eq]
    rfl

end Sys2Proof.Machine
end

section
/-! PROOFS. The learned ratios kept and set (R56, R57). -/

namespace Sys2Proof.Machine

/-- A mark adds a retained write to those that wait, unless one waits already (R169). -/
theorem markRetained_eq (s : State) :
    markRetained s = { s with store := { s.store with
      waiting := if .retained ∈ s.store.waiting then s.store.waiting else s.store.waiting ++ [.retained] } } := by
  unfold markRetained
  split <;> rfl

theorem exec_hourlyRatioMark (s : State) :
    exec .hourlyRatioMark s
      = .next (conclude s (markRetained (snapshotRatios (advanceTo (s.nextHour * 1000) s)))) := rfl

theorem judgeResetRatio_position {q : Port} (hq : q ≠ .linkP) {body : List Byte} {p : Pos}
    (hbody : bodyPosition body = some p) (s : State) :
    judgeResetRatio q body s = (setRatio p Config.unitRatio s, [0x00]) := by
  have hpermitted : Request.resetRatio.permitted q = true := by
    cases q with
    | linkP => exact absurd rfl hq
    | linkS => rfl
    | service => rfl
  rw [judgeResetRatio, checked_passes hpermitted (by simp [hbody]) (by cases q <;> rfl), hbody]
  rfl

theorem exec_resetRatio {q : Port} {station : Byte} {body : List Byte} {s : State} {p : Pos} (hq : q ≠ .linkP)
    (hr : Ready q station 0x53 body s) (hbody : bodyPosition body = some p) :
    exec (.resetRatio q station body) s = .next (answered q station 0x53 [0x00] (setRatio p Config.unitRatio s)) := by
  have hreceive := receiveRequest_ready hr (judgeResetRatio q body)
  rw [takeRequest_change ((judgeResetRatio_position hq hbody (toAnswering q s)).trans
    (congrArg (·, _) (toAnswering_setRatio q s p Config.unitRatio)))] at hreceive
  exact congrArg _ hreceive

/-- Settles O42: the mark is one retained write more at most, and the reset is `setRatio` alone. -/
theorem ratiosMarkedAndReset : Obligations.RatiosMarkedAndReset := by
  intro s
  refine ⟨⟨tabulate fun p => (s.pos p).ratio, fun p => tabulate_get _ p, ?_⟩,
    fun q station p hq hr => exec_resetRatio hq hr (bodyPosition_byte p)⟩
  rw [exec_hourlyRatioMark, markRetained_eq]
  rfl

end Sys2Proof.Machine
end

section
/-! PROOFS. The laws of the isolation records (R66, R84, R86) and the form of the qualifier records (R59): what a change
of one position has to do to keep them, and one lemma for each operation that changes a record. -/

namespace Sys2Proof.Machine

/-! ### The laws of one position -/

/-- The laws of the isolation and qualifier records at one position of a role (R66, R84, R86). -/
structure Lawful (r : Role) (x : PosState) : Prop where
  unheld : r ≠ .switched → x.holds = HoldSet.empty ∧ x.reason = none
  fault : r = .switched → x.holds.fault = x.qual.state.holdsFault
  recheck : x.qual.state = .recheck → r = .switched ∧ x.holds = HoldSet.empty
  reason : x.reason = if x.holds.fault then x.qual.reason else none
  present : x.qual.reason.isSome = x.qual.state.hasReason

theorem isolationLaws_iff (s : State) : IsolationLaws s ↔ ∀ p, Lawful (s.role p) (s.pos p) := by
  constructor
  · rintro ⟨hheld, hfault, hreason⟩ p
    exact ⟨hheld p, (hfault p).1, (hfault p).2, (hreason p).1, (hreason p).2⟩
  · intro h
    exact ⟨fun p => (h p).unheld, fun p => ⟨(h p).fault, (h p).recheck⟩, fun p => ⟨(h p).reason, (h p).present⟩⟩

/-- A position that holds something is SWITCHED (R84). -/
theorem Lawful.switched {r : Role} {x : PosState} (h : Lawful r x) (hx : x.holds ≠ HoldSet.empty) : r = .switched := by
  by_contra hr
  exact hx (h.unheld hr).1

/-- Outside DECLARED, WAITING and LATCHED no FAULT is held, at no role (R66, R84). -/
theorem Lawful.faultless {r : Role} {x : PosState} (h : Lawful r x) (hx : x.qual.state.holdsFault = false) :
    x.holds.fault = false ∧ x.reason = none := by
  have hfault : x.holds.fault = false := by
    by_cases hr : r = .switched
    · rw [h.fault hr, hx]
    · rw [(h.unheld hr).1]; rfl
  refine ⟨hfault, ?_⟩
  rw [h.reason, hfault]
  rfl

/-- The isolation record of an empty hold set has no reason, at any role. -/
theorem Lawful.of_faultless {r : Role} {x : PosState} (hswitched : r ≠ .switched → x.holds = HoldSet.empty)
    (hfault : x.holds.fault = false) (hreason : x.reason = none) (hstate : x.qual.state.holdsFault = false)
    (hrecheck : x.qual.state = .recheck → r = .switched ∧ x.holds = HoldSet.empty)
    (hpresent : x.qual.reason.isSome = x.qual.state.hasReason) : Lawful r x where
  unheld hr := ⟨hswitched hr, hreason⟩
  fault _ := by rw [hfault, hstate]
  recheck := hrecheck
  reason := by rw [hfault, hreason]; rfl
  present := hpresent

/-- A position of a role goes from one content to another, and keeps its laws and the form of its record. -/
structure Passes (r : Role) (x y : PosState) : Prop where
  lawful : Lawful r x → Lawful r y
  formed : x.qual.formed = true → y.qual.formed = true

theorem Passes.refl (r : Role) (x : PosState) : Passes r x x := ⟨id, id⟩

/-- A record changes without gaining or losing a reason or a FAULT that goes with it, and does not enter RECHECK. -/
structure RecordStep (q q' : QualRecord) : Prop where
  reason : q'.reason = q.reason
  fault : q'.state.holdsFault = q.state.holdsFault
  present : q'.state.hasReason = q.state.hasReason
  recheck : q'.state = .recheck → q.state = .recheck
  formed : q.formed = true → q'.formed = true

theorem RecordStep.refl (q : QualRecord) : RecordStep q q := ⟨rfl, rfl, rfl, id, id⟩

/-- The record of a position takes a step and its isolation record stays. -/
theorem Passes.of_record {r : Role} {x y : PosState} (hqual : RecordStep x.qual y.qual) (hholds : y.holds = x.holds)
    (hreason : y.reason = x.reason) : Passes r x y := by
  refine ⟨fun h => ⟨?_, ?_, ?_, ?_, ?_⟩, hqual.formed⟩
  · rw [hholds, hreason]; exact h.unheld
  · rw [hholds, hqual.fault]; exact h.fault
  · rw [hholds]; exact fun hr => h.recheck (hqual.recheck hr)
  · rw [hholds, hreason, hqual.reason]; exact h.reason
  · rw [hqual.reason, hqual.present]; exact h.present

/-- What the laws speak of is as it was. -/
theorem Passes.of_same (r : Role) {x y : PosState} (hqual : y.qual = x.qual) (hholds : y.holds = x.holds)
    (hreason : y.reason = x.reason) : Passes r x y :=
  .of_record (hqual ▸ .refl _) hholds hreason

/-- A record without FAULT is returned to CLEAR (R72, R76). -/
theorem Passes.cleared (r : Role) (trials : Nat) {x : PosState} (hstate : x.qual.state.holdsFault = false) :
    Passes r x { x with qual := QualRecord.cleared trials } := by
  refine ⟨fun h => ?_, fun _ => rfl⟩
  obtain ⟨hfault, hreason⟩ := h.faultless hstate
  exact .of_faultless (fun hr => (h.unheld hr).1) hfault hreason rfl (nofun) rfl

/-! ### The form of a record in each state (Table 4-1) -/

section
variable (cls : Option Abnormal) (count hold trials : Nat) (reason : Option Reason) (timer confirm : Option Nat)

@[simp] theorem formed_clear : (QualRecord.mk .clear cls count hold reason timer confirm trials).formed = true ↔
    cls = none ∧ count = 0 ∧ hold = 0 ∧ reason = none ∧ timer = none ∧ confirm = none := by
  cases cls with
  | none => simp [QualRecord.formed, QualState.hasReason]; tauto
  | some c => simp [QualRecord.formed]

@[simp] theorem formed_suspect : (QualRecord.mk .suspect cls count hold reason timer confirm trials).formed = true ↔
    cls.isSome = true ∧ reason = none ∧ timer = none ∧ confirm = none := by
  simp [QualRecord.formed, QualState.hasReason]; tauto

@[simp] theorem formed_declared : (QualRecord.mk .declared cls count hold reason timer confirm trials).formed = true ↔
    cls.isSome = true ∧ hold = 0 ∧ reason.isSome = true ∧ timer = none ∧ confirm = none := by
  simp [QualRecord.formed, QualState.hasReason]; tauto

@[simp] theorem formed_waiting : (QualRecord.mk .waiting cls count hold reason timer confirm trials).formed = true ↔
    (cls.isSome = true ∨ count = 0) ∧ hold = 0 ∧ reason.isSome = true ∧ timer.isSome = true ∧ confirm = none := by
  simp [QualRecord.formed, QualState.hasReason]; tauto

@[simp] theorem formed_recheck : (QualRecord.mk .recheck cls count hold reason timer confirm trials).formed = true ↔
    (cls.isSome = true ∨ count = 0) ∧ hold = 0 ∧ reason.isSome = true ∧ timer = none ∧ confirm.isSome = true := by
  simp [QualRecord.formed, QualState.hasReason]; tauto

@[simp] theorem formed_latched : (QualRecord.mk .latched cls count hold reason timer confirm trials).formed = true ↔
    (cls.isSome = true ∨ count = 0) ∧ hold = 0 ∧ reason.isSome = true ∧ timer = none ∧ confirm = none := by
  simp [QualRecord.formed, QualState.hasReason]; tauto

@[simp] theorem formed_reported : (QualRecord.mk .reported cls count hold reason timer confirm trials).formed = true ↔
    cls.isSome = true ∧ hold = 0 ∧ reason.isSome = true ∧ timer = none ∧ confirm.isSome = true := by
  simp [QualRecord.formed, QualState.hasReason]; tauto

end

/-! ### The steps of a record -/

section
variable {q : QualRecord}

theorem step_latchedFrom (h : q.state = .declared ∨ q.state = .waiting) : RecordStep q (latchedFrom q) := by
  obtain ⟨state, cls, count, hold, reason, timer, confirm, trials⟩ := q
  rcases h with rfl | rfl
  · exact ⟨rfl, rfl, rfl, nofun, by simp +contextual [latchedFrom]⟩
  · exact ⟨rfl, rfl, rfl, nofun, by simp +contextual [latchedFrom]⟩

theorem step_waiting (h : q.state = .declared) (t : Nat) :
    RecordStep q { q with state := .waiting, timer := some t } := by
  obtain ⟨state, cls, count, hold, reason, timer, confirm, trials⟩ := q
  cases h
  exact ⟨rfl, rfl, rfl, nofun, by simp +contextual⟩

theorem counted_eq (c : Abnormal) (q : QualRecord) :
    counted c q = { q with cls := some c, count := if q.cls = some c then q.count + 1 else 1 } := by
  unfold counted
  split
  · next h => rw [← h]
  · rfl

theorem step_afterAbnormal (c : Abnormal) : RecordStep q (afterAbnormal c q) := by
  unfold afterAbnormal
  rw [counted_eq]
  generalize (if q.cls = some c then q.count + 1 else 1) = n
  obtain ⟨state, cls, count, hold, reason, timer, confirm, trials⟩ := q
  cases state with
  | clear => exact ⟨rfl, rfl, rfl, nofun, by simp +contextual⟩
  | suspect => exact ⟨rfl, rfl, rfl, nofun, by simp +contextual⟩
  | recheck => exact ⟨rfl, rfl, rfl, fun _ => rfl, by simp +contextual⟩
  | _ => exact .refl _

theorem step_unsuspected (h : q.state = .suspect) : RecordStep q (unsuspected q) := by
  obtain ⟨state, cls, count, hold, reason, timer, confirm, trials⟩ := q
  cases h
  exact ⟨rfl, rfl, rfl, nofun, by simp +contextual [unsuspected]⟩

theorem step_holdCount (h : q.state = .suspect) (n : Nat) : RecordStep q { q with holdCount := n } := by
  obtain ⟨state, cls, count, hold, reason, timer, confirm, trials⟩ := q
  cases h
  exact ⟨rfl, rfl, rfl, nofun, by simp +contextual⟩

theorem step_trialConfirmed (h : q.state = .recheck) (n : Nat) :
    RecordStep q { q with confirm := some n, cls := none, count := 0 } := by
  obtain ⟨state, cls, count, hold, reason, timer, confirm, trials⟩ := q
  cases h
  exact ⟨rfl, rfl, rfl, fun _ => rfl, by simp +contextual⟩

theorem step_confirm (h : q.state = .reported) (n : Nat) : RecordStep q { q with confirm := some n } := by
  obtain ⟨state, cls, count, hold, reason, timer, confirm, trials⟩ := q
  cases h
  exact ⟨rfl, rfl, rfl, nofun, by simp +contextual⟩

theorem step_timer (h : q.state = .waiting) (n : Nat) : RecordStep q { q with timer := some n } := by
  obtain ⟨state, cls, count, hold, reason, timer, confirm, trials⟩ := q
  cases h
  exact ⟨rfl, rfl, rfl, nofun, by simp +contextual⟩

theorem formed_interrupted (h : q.state = .recheck) (st : Settings) (hq : q.formed = true) :
    (interrupted st q).formed = true := by
  obtain ⟨state, cls, count, hold, reason, timer, confirm, trials⟩ := q
  cases h
  simp_all [interrupted]

theorem formed_declaredRecord (h : q.state = .suspect ∨ q.state = .recheck) (hcls : q.cls.isSome = true) (c : Abnormal)
    (hq : q.formed = true) : (declaredRecord c q).formed = true := by
  obtain ⟨state, cls, count, hold, reason, timer, confirm, trials⟩ := q
  rcases h with rfl | rfl
  · simp_all [declaredRecord]
  · simp_all [declaredRecord]

theorem formed_reportedRecord (h : q.state = .suspect ∨ q.state = .recheck) (hcls : q.cls.isSome = true) (c : Abnormal)
    (hq : q.formed = true) : (reportedRecord c q).formed = true := by
  obtain ⟨state, cls, count, hold, reason, timer, confirm, trials⟩ := q
  rcases h with rfl | rfl
  · simp_all [reportedRecord]
  · simp_all [reportedRecord]

/-- A record latches on a switch fault from RECHECK too (R74). -/
theorem formed_latchedFrom_recheck (h : q.state = .recheck) (hq : q.formed = true) : (latchedFrom q).formed = true := by
  obtain ⟨state, cls, count, hold, reason, timer, confirm, trials⟩ := q
  cases h
  simp_all [latchedFrom]

theorem formed_trialRecord (h : q.state = .waiting) (hq : q.formed = true) : (trialRecord q).formed = true := by
  obtain ⟨state, cls, count, hold, reason, timer, confirm, trials⟩ := q
  cases h
  simp_all [trialRecord]

theorem formed_groundRecord (q : QualRecord) : (groundRecord q).formed = true := by simp [groundRecord]

theorem formed_cleared (trials : Nat) : (QualRecord.cleared trials).formed = true := rfl

theorem step_trials (n : Nat) : RecordStep q { q with trials := n } := ⟨rfl, rfl, rfl, id, id⟩

theorem step_timerMap (f : Nat → Nat) : RecordStep q { q with timer := q.timer.map f } :=
  ⟨rfl, rfl, rfl, id, by simp [QualRecord.formed]⟩

end

/-! ### Keeping the laws -/

/-- An operation keeps the laws of the isolation and qualifier records, and the form of the records, each by itself. -/
structure KeepsRecords (s t : State) : Prop where
  isolation : IsolationLaws s → IsolationLaws t
  formed : RecordsFormed s → RecordsFormed t

theorem KeepsRecords.refl (s : State) : KeepsRecords s s := ⟨id, id⟩

theorem KeepsRecords.trans {s t u : State} (h : KeepsRecords s t) (k : KeepsRecords t u) : KeepsRecords s u :=
  ⟨k.isolation ∘ h.isolation, k.formed ∘ h.formed⟩

theorem KeepsRecords.foldl {α : Type} (f : State → α → State) (h : ∀ s a, KeepsRecords s (f s a)) (l : List α)
    (s : State) : KeepsRecords s (l.foldl f s) := by
  induction l generalizing s with
  | nil => exact .refl s
  | cons a l ih => exact (h s a).trans (ih _)

/-- The roles stand, and every position passes from one content to another. -/
theorem KeepsRecords.of_passes {s t : State} (hrole : ∀ p, t.role p = s.role p)
    (h : ∀ p, Passes (s.role p) (s.pos p) (t.pos p)) : KeepsRecords s t := by
  refine ⟨fun hs => ?_, fun hs p => (h p).formed (hs p)⟩
  rw [isolationLaws_iff] at hs ⊢
  exact fun p => hrole p ▸ (h p).lawful (hs p)

/-- Roles and positions stand as they were. -/
theorem KeepsRecords.of_pos {s t : State} (hsettings : t.settings = s.settings) (hpos : ∀ p, t.pos p = s.pos p) :
    KeepsRecords s t :=
  .of_passes (role_eq_of_settings hsettings) (fun p => hpos p ▸ .refl _ _)

/-- Settings and positions stand as they were. -/
theorem KeepsRecords.of_eq {s t : State} (hsettings : t.settings = s.settings)
    (hpositions : t.positions = s.positions) :
    KeepsRecords s t := .of_pos hsettings (pos_eq_of_positions hpositions)

/-- An operation that leaves every position alone. -/
theorem Acts.keepsRecords {s t : State} (h : Acts s t) (hpos : ∀ p, t.pos p = s.pos p) : KeepsRecords s t :=
  .of_pos h.settings hpos

/-- An operation that changes one position. -/
theorem KeepsRecords.at {s t : State} (p : Pos) (hsettings : t.settings = s.settings)
    (hother : ∀ j, j ≠ p → t.pos j = s.pos j) (h : Passes (s.role p) (s.pos p) (t.pos p)) : KeepsRecords s t := by
  refine .of_passes (role_eq_of_settings hsettings) (fun j => ?_)
  by_cases hj : j = p
  · subst hj; exact h
  · rw [hother j hj]; exact .refl _ _

variable (s : State)

theorem records_modify (p : Pos) (f : PosState → PosState) (h : Passes (s.role p) (s.pos p) (f (s.pos p))) :
    KeepsRecords s (s.modify p f) := by
  refine .at p rfl (fun j hj => ?_) ?_
  · rw [modify_pos, if_neg hj]
  · rw [modify_pos, if_pos rfl]; exact h

theorem records_setQual {p : Pos} {q : QualRecord} (h : RecordStep (s.pos p).qual q) : KeepsRecords s (setQual p q s) :=
  records_modify s p _ (.of_record h rfl rfl)

theorem records_modifyQual {p : Pos} {f : QualRecord → QualRecord} (h : RecordStep (s.pos p).qual (f (s.pos p).qual)) :
    KeepsRecords s (modifyQual p f s) := records_setQual s h

theorem records_setResidual (p : Pos) (n : Nat) : KeepsRecords s (setResidual p n s) :=
  records_modify s p _ (.of_same _ rfl rfl rfl)

theorem records_setRatio (p : Pos) (n : Nat) : KeepsRecords s (setRatio p n s) :=
  records_modify s p _ (.of_same _ rfl rfl rfl)

theorem records_setCondition (p : Pos) (c : Condition) : KeepsRecords s (setCondition p c s) := by
  refine .at p (setCondition_settings s p c) (fun j hj => ?_) ?_
  · rw [setCondition_pos, if_neg hj]
  · rw [setCondition_pos, if_pos rfl]; exact .of_same _ rfl rfl rfl

theorem records_setGate (p : Pos) (b : Bool) : KeepsRecords s (setGate p b s) :=
  records_modify s p _ (.of_same _ rfl rfl rfl)

theorem records_markRetained : KeepsRecords s (markRetained s) := (acts_markRetained s).keepsRecords (by simp)

theorem records_emit (k : NoticeKind) (e : Edge) (p : Option Pos) (d : Detail) : KeepsRecords s (emit k e p d s) :=
  .of_eq rfl rfl

theorem records_removeOrder (p : Pos) : KeepsRecords s (removeOrder p s) := .of_eq rfl rfl

theorem records_takeTarget (p : Pos) : KeepsRecords s (takeTarget p s) := (acts_takeTarget s p).keepsRecords (by simp)

theorem records_takeTargets (ps : List Pos) : KeepsRecords s (takeTargets ps s) :=
  (acts_takeTargets s ps).keepsRecords (by simp)

theorem records_nextCandidate : KeepsRecords s (nextCandidate s) := (acts_nextCandidate s).keepsRecords (by simp)

theorem records_reclosingTest (p : Pos) : KeepsRecords s (reclosingTest p s) :=
  (acts_reclosingTest s p).keepsRecords (by simp)

theorem records_reclosingAfter (h : Holder) (b : Bool) (ps : List Pos) (s₀ : State) :
    KeepsRecords s (reclosingAfter h b ps s₀ s) := (acts_reclosingAfter s h b ps s₀).keepsRecords (by simp)

theorem records_endWalk (o : WalkOutcome) (f : Option Pos) : KeepsRecords s (endWalk o f s) := .of_eq rfl rfl

theorem records_appendEntry (e : StepEntry) : KeepsRecords s (appendEntry e s) := .of_eq rfl rfl

theorem records_setWalk (w : Walk) : KeepsRecords s { s with walk := w } := .of_eq rfl rfl

/-! ### Hold changes (R84 to R89) -/

theorem alters_iff (h : Holder) (b : Bool) (p : Pos) :
    alters h b s p = true ↔ (s.pos p).holds.has h ≠ b ∧ (b = true → s.role p = .switched) := by
  cases b <;> simp [alters]

theorem interrupts_iff (h : Holder) (b : Bool) (p : Pos) :
    interrupts h b s p = true ↔
      b = true ∧ h ≠ .fault ∧ (s.pos p).holds = HoldSet.empty ∧ (s.pos p).qual.state = .recheck := by
  simp [interrupts, and_assoc]

theorem has_empty (h : Holder) : HoldSet.empty.has h = false := by cases h <;> rfl

theorem put_fault_of_ne {h : Holder} (hh : h ≠ .fault) (hs : HoldSet) (b : Bool) : (hs.put h b).fault = hs.fault := by
  cases h with
  | fault => exact absurd rfl hh
  | _ => rfl

theorem locate_ne_fault : Holder.locate ≠ .fault := by decide

theorem reasonAfter_of_ne {h : Holder} (hh : h ≠ .fault) (b : Bool) (r old : Option Reason) :
    reasonAfter h b r old = old := by
  cases h with
  | fault => exact absurd rfl hh
  | _ => rfl

/-- Hold sets change at SWITCHED positions alone (R84). -/
theorem Lawful.switched_of_alters {h : Holder} {b : Bool} {p : Pos} (hx : Lawful (s.role p) (s.pos p))
    (ha : alters h b s p = true) : s.role p = .switched := by
  obtain ⟨hhas, hswitched⟩ := (alters_iff s h b p).1 ha
  cases b with
  | true => exact hswitched rfl
  | false => exact hx.switched (fun he => hhas (by rw [he, has_empty]))

/-- A position whose hold set another holder than FAULT changes, where that interrupts no trial. -/
theorem passes_heldAs {h : Holder} (hh : h ≠ .fault) {b : Bool} {p : Pos} (ha : alters h b s p = true)
    (hi : ¬ interrupts h b s p = true) (r : Option Reason) (u : Nat) :
    Passes (s.role p) (s.pos p) (heldAs h b r u (s.pos p)) := by
  refine ⟨fun hx => ?_, id⟩
  have hswitched := hx.switched_of_alters s ha
  refine ⟨fun hr => absurd hswitched hr, fun hr => ?_, fun hr => ?_, ?_, hx.present⟩
  · exact (put_fault_of_ne hh _ b).trans (hx.fault hr)
  · have hempty := (hx.recheck hr).2
    have hb : b = true := by
      have hhas := ((alters_iff s h b p).1 ha).1
      rw [hempty, has_empty] at hhas
      exact (Bool.eq_true_of_not_eq_false (Ne.symm hhas))
    exact absurd ((interrupts_iff s h b p).2 ⟨hb, hh, hempty, hr⟩) hi
  · simp only [heldAs, reasonAfter_of_ne hh, put_fault_of_ne hh]
    exact hx.reason

/-- A position whose trial another holder interrupts: it waits, with FAULT held again (R73, R89). -/
theorem passes_heldInterrupted {h : Holder} {b : Bool} {p : Pos} (ha : alters h b s p = true)
    (hi : interrupts h b s p = true) (st : Settings) (u : Nat) :
    Passes (s.role p) (s.pos p) (heldInterrupted h st u (s.pos p)) := by
  obtain ⟨_, _, _, hstate⟩ := (interrupts_iff s h b p).1 hi
  constructor
  · intro hx
    have hpresent := hx.present
    rw [hstate] at hpresent
    exact ⟨fun hr => absurd (hx.switched_of_alters s ha) hr, fun _ => rfl, nofun, rfl, hpresent⟩
  · exact formed_interrupted hstate st

/-- A change of another holder than FAULT (R84 to R89). -/
theorem records_changeHolder {h : Holder} (hh : h ≠ .fault) (b : Bool) (r : Option Reason) {ps : List Pos}
    (hps : ps.Nodup) : KeepsRecords s (changeHolder h b r ps s) := by
  refine .of_passes (role_eq_of_settings (acts_changeHolder s h b r ps).settings) (fun p => ?_)
  rw [changeHolder_pos s h b r ps hps]
  split
  · next ha =>
    split
    · next hi => exact passes_heldInterrupted s ha.2 hi _ _
    · next hi => exact passes_heldAs s hh ha.2 hi _ _
  · exact .refl _ _

theorem records_changeHolds {h : Holder} (hh : h ≠ .fault) (b : Bool) (r : Option Reason) {ps : List Pos}
    (hps : ps.Nodup) : KeepsRecords s (changeHolds h b r ps s) :=
  (records_changeHolder s hh b r hps).trans (records_reclosingAfter _ h b ps s)

/-- A change of FAULT at one position interrupts no trial (R89). -/
theorem changeFault_pos (b : Bool) (r : Option Reason) (p j : Pos) :
    (changeHolder .fault b r [p] s).pos j =
      if j = p ∧ alters .fault b s p = true then heldAs .fault b r s.uptime (s.pos p) else s.pos j := by
  have hi : ¬ interrupts .fault b s j = true := fun h => ((interrupts_iff s .fault b j).1 h).2.1 rfl
  rw [changeHolder_pos s .fault b r [p] (List.nodup_singleton p), if_neg hi]
  by_cases hj : j = p
  · subst hj; simp
  · simp [hj]

/-- A state that differs from another by the record of one position, as far as positions and settings go. -/
structure Recorded (s : State) (p : Pos) (q : QualRecord) (u : State) : Prop where
  settings : u.settings = s.settings
  pos : ∀ j, u.pos j = (setQual p q s).pos j

theorem recorded_setQual (p : Pos) (q : QualRecord) : Recorded s p q (setQual p q s) := ⟨rfl, fun _ => rfl⟩

theorem recorded_latch (p : Pos) : Recorded s p (latchedFrom (s.pos p).qual) (latch p s) :=
  ⟨(acts_latch s p).settings, markRetained_pos _⟩

section
variable {s} {p : Pos} {q : QualRecord} {u : State} (hu : Recorded s p q u) (b : Bool) (r : Option Reason)
include hu

/-- The record of a position replaced and FAULT put there or taken out, as one change of the position. -/
theorem Recorded.changeFault_pos :
    (changeHolder .fault b r [p] u).pos p =
      if alters .fault b s p = true then
        { s.pos p with
          qual := q, holds := (s.pos p).holds.put .fault b, reason := reasonAfter .fault b r (s.pos p).reason
          lastChange := u.uptime }
      else { s.pos p with qual := q } := by
  have hp : u.pos p = { s.pos p with qual := q } := by rw [hu.pos, setQual_pos, if_pos rfl]
  have ha : alters .fault b u p = alters .fault b s p := by
    simp only [alters, hp, role_eq_of_settings hu.settings]
  rw [Machine.changeFault_pos, ha, hp]
  simp only [true_and]
  rfl

theorem Recorded.changeFault_other {j : Pos} (hj : j ≠ p) : (changeHolder .fault b r [p] u).pos j = s.pos j := by
  rw [Machine.changeFault_pos, if_neg (fun h => hj h.1), hu.pos, setQual_pos, if_neg hj]

theorem Recorded.changeFault_settings : (changeHolder .fault b r [p] u).settings = s.settings :=
  (acts_changeHolder u _ _ _ _).settings.trans hu.settings

end

theorem QualState.holdsFault_spec {a : QualState} (h : a.holdsFault = true) : a ≠ .recheck ∧ a.hasReason = true := by
  cases a <;> simp [QualState.holdsFault, QualState.hasReason] at h ⊢

/-- FAULT inserted for a record that has come to hold it, with the record's own reason (R65, R66, R74). -/
theorem records_faultInserted {p : Pos} {q : QualRecord} {u : State} (hu : Recorded s p q u)
    (hold : (s.pos p).qual.state.holdsFault = false) (hq : q.state.holdsFault = true)
    (hx : Lawful (s.role p) (s.pos p) → s.role p = .switched ∧ q.reason.isSome = true)
    (hformed : (s.pos p).qual.formed = true → q.formed = true) :
    KeepsRecords s (changeHolder .fault true q.reason [p] u) := by
  refine .at p (hu.changeFault_settings _ _) (fun j hj => hu.changeFault_other _ _ hj) ?_
  rw [hu.changeFault_pos]
  refine ⟨fun h => ?_, fun h => ?_⟩
  · obtain ⟨hswitched, hsome⟩ := hx h
    obtain ⟨hrecheck, hreason⟩ := QualState.holdsFault_spec hq
    have ha : alters .fault true s p = true :=
      (alters_iff s .fault true p).2 ⟨by rw [HoldSet.has, (h.faultless hold).1]; simp, fun _ => hswitched⟩
    rw [if_pos ha]
    exact ⟨fun hr => absurd hswitched hr, fun _ => hq.symm, fun hr => absurd hr hrecheck, rfl, by rw [hreason, hsome]⟩
  · split <;> exact hformed h

theorem put_fault_false {hs : HoldSet} (h : hs.fault = false) : hs.put .fault false = hs := by
  obtain ⟨fault, plant, site, lockout, safety, locate⟩ := hs
  cases h
  rfl

/-- FAULT removed for a record that has ceased to hold it (R66, R70, R77). -/
theorem records_faultRemoved {p : Pos} {q : QualRecord} {u : State} (hu : Recorded s p q u)
    (hq : q.state.holdsFault = false)
    (hx : Lawful (s.role p) (s.pos p) → q.reason.isSome = q.state.hasReason
      ∧ (q.state = .recheck → s.role p = .switched ∧ (s.pos p).holds.put .fault false = HoldSet.empty))
    (hformed : (s.pos p).qual.formed = true → q.formed = true) :
    KeepsRecords s (changeHolder .fault false none [p] u) := by
  refine .at p (hu.changeFault_settings _ _) (fun j hj => hu.changeFault_other _ _ hj) ?_
  rw [hu.changeFault_pos]
  refine ⟨fun h => ?_, fun h => ?_⟩
  · obtain ⟨hpresent, hrecheck⟩ := hx h
    split
    · next ha =>
      exact .of_faultless (fun hr => absurd (h.switched_of_alters s ha) hr) rfl rfl hq hrecheck hpresent
    · next ha =>
      have hfault : (s.pos p).holds.fault = false := by
        simpa [HoldSet.has] using mt (alters_iff s .fault false p).2 ha
      have hreason : (s.pos p).reason = none := by rw [h.reason, hfault]; rfl
      rw [put_fault_false hfault] at hrecheck
      exact .of_faultless (fun hr => (h.unheld hr).1) hfault hreason hq hrecheck hpresent
  · split <;> exact hformed h

/-! ### Condition reports (R68, R74, R88, R116) -/

theorem records_latch {p : Pos} (h : (s.pos p).qual.state = .declared ∨ (s.pos p).qual.state = .waiting) :
    KeepsRecords s (latch p s) := (records_modifyQual s (step_latchedFrom h)).trans (records_markRetained _)

theorem records_openReport (p : Pos) : KeepsRecords s (openReport p s) := by
  unfold openReport
  split
  · next h =>
    split
    · exact records_modifyQual s (step_waiting h _)
    · exact records_latch s (.inl h)
  · exact .refl s

theorem records_faultReport (p : Pos) : KeepsRecords s (faultReport p s) := by
  unfold faultReport
  split
  · next h => exact records_latch s (.inl h)
  · next h => exact records_latch s (.inr h)
  · next h =>
    refine KeepsRecords.trans ?_ (records_reclosingAfter _ _ _ _ _)
    refine records_faultInserted s (q := latchedFrom (s.pos p).qual) (recorded_latch s p) (by rw [h]; rfl) rfl
      (fun hx => ?_) (formed_latchedFrom_recheck h)
    exact ⟨(hx.recheck h).1, by rw [latchedFrom, hx.present, h]; rfl⟩
  · exact .refl s

theorem records_qualReport (p : Pos) (c : Condition) : KeepsRecords s (qualReport p c s) := by
  cases c with
  | closed => exact records_setResidual s p 0
  | opened => exact records_openReport s p
  | moving => exact .refl s
  | jammedClosed => exact records_faultReport s p
  | jammedOpen => exact records_faultReport s p
  | conductingOpen => exact records_faultReport s p
  | absent => exact .refl s

theorem records_walkReport (p : Pos) (c : Condition) : KeepsRecords s (walkReport p c s) := by
  have hskip : KeepsRecords s (skipJammed p s) :=
    ((records_changeHolds s locate_ne_fault _ _ (List.nodup_singleton p)).trans (records_appendEntry _ _)).trans
      (records_nextCandidate _)
  unfold walkReport
  split
  · split
    · exact .of_eq rfl rfl
    · exact hskip
    · exact records_reclosingTest s p
    · exact .refl s
  · exact .refl s

theorem records_handOn (p : Pos) (c : Condition) : KeepsRecords s (handOn p c s) :=
  (records_qualReport s p c).trans (records_walkReport _ p c)

theorem records_conditionReport (p : Pos) (c : Condition) : KeepsRecords s (conditionReport p c s) :=
  (records_takeTarget s p).trans (records_handOn _ p c)

theorem records_conductingOpenReport (p : Pos) : KeepsRecords s (conductingOpenReport p s) := by
  unfold conductingOpenReport
  split
  · exact (((records_setCondition s p _).trans (records_removeOrder _ p)).trans (records_emit _ _ _ _ _)).trans
      (records_conditionReport _ p _)
  · exact .refl s

/-! ### The Fault Qualifier's share of a completion (R61 to R80) -/

theorem records_declaredStanding (p : Pos) : KeepsRecords s (declaredStanding p s) := by
  unfold declaredStanding
  split
  · exact records_openReport s p
  · exact records_faultReport s p
  · exact records_faultReport s p
  · exact records_faultReport s p
  · exact .refl s

/-- A record that counts a class declares it (R65, R67). -/
theorem records_declare {p : Pos} (hstate : (s.pos p).qual.state = .suspect ∨ (s.pos p).qual.state = .recheck)
    (hcls : (s.pos p).qual.cls.isSome = true) (c : Abnormal) : KeepsRecords s (declare p c s) := by
  have hfree : (s.pos p).qual.state.holdsFault = false := by rcases hstate with h | h <;> rw [h] <;> rfl
  unfold declare
  split
  · next hrole =>
    refine KeepsRecords.trans ?_ (records_declaredStanding _ p)
    exact ((records_faultInserted s (recorded_setQual s p (declaredRecord c (s.pos p).qual)) hfree rfl
      (fun _ => ⟨hrole, rfl⟩) (formed_declaredRecord hstate hcls c)).trans (records_emit _ _ _ _ _)).trans
        (records_reclosingAfter _ _ _ _ _)
  · next hrole =>
    refine KeepsRecords.trans (records_modify s p _ ⟨fun h => ?_, ?_⟩) (records_emit _ _ _ _ _)
    · obtain ⟨hfault, hreason⟩ := h.faultless hfree
      exact .of_faultless (fun hr => (h.unheld hr).1) hfault hreason rfl nofun rfl
    · exact formed_reportedRecord hstate hcls c
  · exact .refl s

theorem afterAbnormal_counts {q : QualRecord} (h : q.state = .clear ∨ q.state = .suspect ∨ q.state = .recheck)
    (c : Abnormal) :
    ((afterAbnormal c q).state = .suspect ∨ (afterAbnormal c q).state = .recheck)
      ∧ (afterAbnormal c q).cls = some c := by
  unfold afterAbnormal
  rw [counted_eq]
  obtain ⟨state, cls, count, hold, reason, timer, confirm, trials⟩ := q
  rcases h with rfl | rfl | rfl
  · exact ⟨.inl rfl, rfl⟩
  · exact ⟨.inl rfl, rfl⟩
  · exact ⟨.inr rfl, rfl⟩

theorem records_countAbnormal {p : Pos} (h : (s.pos p).qual.state = .clear ∨ (s.pos p).qual.state = .suspect
    ∨ (s.pos p).qual.state = .recheck) (c : Abnormal) : KeepsRecords s (countAbnormal p c s) := by
  have hcount : KeepsRecords s (modifyQual p (afterAbnormal c) s) := records_modifyQual s (step_afterAbnormal c)
  unfold countAbnormal
  split
  · obtain ⟨hstate, hcls⟩ := afterAbnormal_counts h c
    have hqual : ((modifyQual p (afterAbnormal c) s).pos p).qual = afterAbnormal c (s.pos p).qual := by
      rw [modifyQual_pos, if_pos rfl]
    exact hcount.trans (records_declare _ (hqual ▸ hstate) (by rw [hqual, hcls]; rfl) c)
  · exact hcount

theorem records_holdSuspicion {p : Pos} (h : (s.pos p).qual.state = .suspect) : KeepsRecords s (holdSuspicion p s) := by
  unfold holdSuspicion
  split
  · exact records_modifyQual s (step_unsuspected h)
  · exact records_modifyQual s (step_holdCount h _)

/-- A record that holds no FAULT recovers (R72, R76). -/
theorem records_recovered {p : Pos} (h : (s.pos p).qual.state.holdsFault = false) : KeepsRecords s (recovered p s) :=
  (records_modify s p _ (.cleared _ _ h)).trans (records_emit _ _ _ _ _)

theorem records_confirmTrial {p : Pos} (h : (s.pos p).qual.state = .recheck) : KeepsRecords s (confirmTrial p s) := by
  unfold confirmTrial
  split
  · exact records_recovered s (by rw [h]; rfl)
  · exact records_modifyQual s (step_trialConfirmed h _)

theorem records_confirmRecovery {p : Pos} (h : (s.pos p).qual.state = .reported) :
    KeepsRecords s (confirmRecovery p s) := by
  unfold confirmRecovery
  split
  · exact records_recovered s (by rw [h]; rfl)
  · exact records_modifyQual s (step_confirm h _)

theorem records_recheckExpired {p : Pos} (h : (s.pos p).qual.state = .waiting) :
    KeepsRecords s (recheckExpired p s) := by
  unfold recheckExpired
  split
  · exact records_latch s (.inr h)
  · split
    · next htrial =>
      refine KeepsRecords.trans ?_ (records_reclosingAfter _ _ _ _ _)
      refine records_faultRemoved s (recorded_setQual s p (trialRecord (s.pos p).qual)) rfl
        (fun hx => ⟨?_, fun _ => ?_⟩)
        (formed_trialRecord h)
      · rw [trialRecord, hx.present, h]; rfl
      · rw [htrial.1]; exact ⟨hx.switched (by rw [htrial.1]; decide), rfl⟩
    · exact records_modifyQual s (step_timer h _)

theorem records_waitingSweep {p : Pos} (h : (s.pos p).qual.state = .waiting) : KeepsRecords s (waitingSweep p s) := by
  unfold waitingSweep
  split
  · split
    · exact records_recheckExpired s h
    · exact records_modifyQual s (step_timer h _)
  · exact .refl s

theorem records_takeClass (p : Pos) (cls : Class) (c : Condition) : KeepsRecords s (takeClass p cls c s) := by
  unfold takeClass
  split
  · exact .refl s
  · split
    · next h _ => exact records_countAbnormal s (.inl h) _
    · next h _ => exact records_countAbnormal s (.inr (.inl h)) _
    · next h _ => exact records_modifyQual s (step_unsuspected h)
    · next h _ => exact records_holdSuspicion s h
    · next h => exact records_waitingSweep s h
    · next h _ =>
      split
      · exact records_countAbnormal s (.inr (.inr h)) _
      · exact .refl s
    · next h _ =>
      split
      · exact records_confirmTrial s h
      · exact .refl s
    · next h _ => exact records_confirmRecovery s h
    · next h _ => exact records_modifyQual s (step_confirm h 0)
    · exact .refl s

theorem records_countResidual (p : Pos) : KeepsRecords s (countResidual p s) := by
  unfold countResidual
  split
  · exact (records_setResidual s p _).trans (records_conductingOpenReport _ p)
  · exact records_setResidual s p _

theorem records_takeResidual (p : Pos) (cls : Class) (c : Condition) : KeepsRecords s (takeResidual p cls c s) := by
  unfold takeResidual
  split
  · split
    · exact records_countResidual s p
    · exact .refl s
  · exact records_setResidual s p 0
  · exact .refl s

theorem records_takePosition (r : SweepRecord) (p : Pos) : KeepsRecords s (takePosition r p s) :=
  (records_takeClass s p _ _).trans (records_takeResidual _ p _ _)

/-! ### The walk's decisions and the leakage alarm (R78, R131 to R146) -/

/-- What the ground latch leaves of a SWITCHED position (R78). -/
def grounded (u : Nat) (x : PosState) : PosState :=
  { x with
    holds := (x.holds.put .locate false).put .fault true, reason := some .ground
    lastChange := if (x.holds.put .locate false).put .fault true = x.holds then x.lastChange else u
    qual := groundRecord x.qual }

theorem groundLatch_pos (p j : Pos) :
    (groundLatch p s).pos j =
      if j = p then
        if s.role p = .switched then grounded s.uptime (s.pos p)
        else { s.pos p with qual := groundRecord (s.pos p).qual }
      else s.pos j := by
  have hrole : (modifyQual p groundRecord s).role p = s.role p := rfl
  rw [groundLatch, markRetained_pos, emit_pos, replaceLocate, hrole]
  by_cases hr : s.role p = .switched
  · simp only [if_pos hr, takeTarget_pos, modify_pos, modifyQual_pos]
    split <;> rfl
  · simp only [if_neg hr, modifyQual_pos]

theorem records_groundLatch (p : Pos) : KeepsRecords s (groundLatch p s) := by
  refine .at p (acts_groundLatch s p).settings (fun j hj => ?_) ?_
  · rw [groundLatch_pos, if_neg hj]
  · rw [groundLatch_pos, if_pos rfl]
    split
    · next hr => exact ⟨fun _ => ⟨fun h => absurd hr h, fun _ => rfl, nofun, rfl, rfl⟩, fun _ => formed_groundRecord _⟩
    · next hr =>
      refine ⟨fun h => ⟨h.unheld, fun h => absurd h hr, nofun, ?_, rfl⟩, fun _ => formed_groundRecord _⟩
      obtain ⟨hholds, hreason⟩ := h.unheld hr
      rw [hholds, hreason]; rfl

theorem records_startWalk (o : WalkOrigin) : KeepsRecords s (startWalk o s) :=
  (acts_startWalk s o).keepsRecords (fun p => nextCandidate_pos _ p)

theorem records_baselineDecision (p : Pos) (l : Nat) : KeepsRecords s (baselineDecision p l s) := by
  unfold baselineDecision
  split
  · exact records_endWalk s _ _
  · split
    · exact (records_appendEntry s _).trans (records_nextCandidate _)
    · exact (records_setWalk s _).trans (records_changeHolds _ locate_ne_fault _ _ (List.nodup_singleton p))

theorem records_measuringDecision (p : Pos) (l : Nat) : KeepsRecords s (measuringDecision p l s) := by
  unfold measuringDecision
  split
  · exact ((records_appendEntry s _).trans (records_groundLatch _ p)).trans (records_endWalk _ _ _)
  · exact (((records_appendEntry s _).trans (records_changeHolds _ locate_ne_fault _ _ (List.nodup_singleton p))).trans
      (records_setWalk _ _)).trans (records_reclosingTest _ p)

theorem records_walkSweep (l : Nat) : KeepsRecords s (walkSweep l s) := by
  unfold walkSweep
  split
  · exact records_baselineDecision s _ l
  · exact records_measuringDecision s _ l
  · exact .refl s

theorem records_abandonWalk : KeepsRecords s (abandonWalk s) := by
  unfold abandonWalk releaseCandidate
  split
  · exact .refl s
  · split
    · exact (records_changeHolder s locate_ne_fault _ _ (List.nodup_singleton _)).trans (records_endWalk _ _ _)
    · exact records_endWalk s _ _

theorem records_setAlarm (a : AlarmState) (n : Nat) : KeepsRecords s (setAlarm a n s) := .of_eq rfl rfl

theorem records_rise (n : Nat) : KeepsRecords s (rise n s) := by
  have hset := (records_setAlarm s .alarm 0).trans (records_emit _ .leakage .set none .absent)
  unfold rise enterAlarm
  split
  · dsimp only
    split
    · exact hset.trans (records_startWalk _ _)
    · exact hset
  · exact records_setAlarm s _ _

theorem records_fall (n : Nat) : KeepsRecords s (fall n s) := by
  unfold fall
  split
  · exact (records_setAlarm s _ _).trans (records_emit _ _ _ _ _)
  · exact records_setAlarm s _ _

theorem records_moveAlarm (l : Nat) : KeepsRecords s (moveAlarm l s) := by
  unfold moveAlarm
  split
  · split
    · exact records_rise s _
    · exact records_rise s _
    · exact .refl s
    · exact records_setAlarm s _ _
  · split
    · split
      · exact .refl s
      · exact records_setAlarm s _ _
      · exact records_fall s _
      · exact records_fall s _
    · exact .refl s

theorem records_setLeakage (x : Leakage) : KeepsRecords s { s with leakage := x } := .of_eq rfl rfl

theorem records_takeLeakage (l : Nat) : KeepsRecords s (takeLeakage l s) :=
  (records_setLeakage s _).trans (records_moveAlarm _ l)

/-! ### Batches, and the end of an event (R110 to R112, R170) -/

/-- A batch's formation touches conditions and gates alone. -/
theorem records_formBatch : KeepsRecords s (formBatch s) := by
  refine .of_passes (role_eq_of_settings (acts_formBatch s).settings) (fun p => ?_)
  obtain ⟨c, g, h⟩ := formBatch_pos s p
  rw [h]
  exact .of_same _ rfl rfl rfl

theorem records_conclude (s₀ : State) : KeepsRecords s (conclude s₀ s) := by
  have hbatch : KeepsRecords s (formBatchAfter s₀ s) := by
    unfold formBatchAfter
    split
    · exact records_formBatch s
    · exact .refl s
  unfold conclude startWriteAfter
  split
  · exact hbatch
  · exact hbatch.trans (.of_eq (by simp) (by simp))

theorem records_emitVerified (p : Pos) (a b : Condition) : KeepsRecords s (emitVerified p a b s) := by
  unfold emitVerified
  split
  · exact records_emit s _ _ _ _
  · split
    · exact records_emit s _ _ _ _
    · split
      · exact records_emit s _ _ _ _
      · exact .refl s

theorem records_completeBatch (c : Contacts) (b : Batch) : KeepsRecords s (completeBatch c b s) := by
  have hdrive : KeepsRecords s { s with drive := { s.drive with batch := none } } := .of_eq rfl rfl
  exact ((((hdrive.trans
    (KeepsRecords.foldl _ (fun s _ => (records_setCondition s _ _).trans (records_setGate _ _ _)) _ _)).trans
    (records_takeTargets _ _)).trans (KeepsRecords.foldl _ (fun s _ => records_emitVerified s _ _ _) _ _)).trans
    (KeepsRecords.foldl _ (fun s _ => records_handOn s _ _) _ _)).trans (records_formBatch _)

end Sys2Proof.Machine
end

section
/-! PROOFS. The laws of the isolation records and the form of the qualifier records across requests and events, and that
every command keeps them. -/

namespace Sys2Proof.Machine

/-! ### Requests judged (R77, R90, R118, R137, R167) -/

section
variable (s : State)

theorem records_checked (r : Request) (q : Port) (ok : Bool) {f : State → Reply} (h : KeepsRecords s (f s).1) :
    KeepsRecords s (checked r q ok f s).1 := by
  unfold checked
  split
  · exact .refl s
  · split
    · exact .refl s
    · split
      · exact .refl s
      · exact h

theorem portHolder_ne_fault (q : Port) : portHolder q ≠ .fault := by cases q <;> decide

theorem maskPositions_nodup (body : List Byte) : (maskPositions body).Nodup := (List.nodup_finRange 24).filter _

theorem records_holdRequest (b : Bool) (q : Port) (body : List Byte) : KeepsRecords s (holdRequest b q body s).1 := by
  unfold holdRequest
  split
  · exact .refl s
  · exact records_changeHolds s (portHolder_ne_fault q) _ _ (maskPositions_nodup body)

theorem records_emitCleared (p : Pos) (q : QualRecord) : KeepsRecords s (emitCleared p q s) := by
  unfold emitCleared
  split
  · exact records_emit s _ _ _ _
  · exact .refl s

theorem records_markUnlatched (q : QualRecord) : KeepsRecords s (markUnlatched q s) := by
  unfold markUnlatched
  split
  · exact records_markRetained s
  · exact .refl s

theorem records_clearFault (p : Pos) : KeepsRecords s (clearFault p s) := by
  unfold clearFault
  split
  · exact .refl s
  · exact (((records_faultRemoved s (recorded_setQual s p (QualRecord.cleared _)) rfl (fun _ => ⟨rfl, nofun⟩)
      (fun _ => formed_cleared _)).trans (records_emitCleared _ p _)).trans (records_markUnlatched _ _)).trans
      (records_reclosingAfter _ _ _ _ _)

theorem records_clearSwitch (c : Contacts) (p : Pos) : KeepsRecords s (clearSwitch c p s) := by
  unfold clearSwitch
  split
  · exact (((records_setCondition s p _).trans (records_setResidual _ p 0)).trans (records_emit _ _ _ _ _)).trans
      (records_conditionReport _ p _)
  · exact .refl s

/-! ### Role changes (R9 to R11) -/

theorem records_emitRemoved (p : Pos) (h : Holder) (old : HoldSet) : KeepsRecords s (emitRemoved p h old s) := by
  unfold emitRemoved
  split
  · exact records_emit s _ _ _ _
  · exact .refl s

/-- A position whose role is written anew, and whose record is cleared under its new role. -/
theorem KeepsRecords.of_newRole {s t : State} (p : Pos) {r : Role} (hsettings : t.settings = (setRole p r s).settings)
    (hother : ∀ j, j ≠ p → t.pos j = s.pos j) (hlawful : Lawful (s.role p) (s.pos p) → Lawful r (t.pos p))
    (hformed : (t.pos p).qual.formed = true) : KeepsRecords s t := by
  have hrole (j : Pos) : t.role j = if j = p then r else s.role j :=
    (role_eq_of_settings hsettings j).trans (setRole_role s p j r)
  constructor
  · rw [isolationLaws_iff, isolationLaws_iff]
    intro h j
    rw [hrole]
    by_cases hj : j = p
    · subst hj; rw [if_pos rfl]; exact hlawful (h j)
    · rw [if_neg hj, hother j hj]; exact h j
  · intro h j
    by_cases hj : j = p
    · subst hj; exact hformed
    · rw [hother j hj]; exact h j

/-- A position with an empty hold set and a CLEAR record is lawful at any role, and with SAFETY where it is SWITCHED. -/
theorem lawful_cleared {r : Role} {x : PosState} (hswitched : r ≠ .switched → x.holds = HoldSet.empty)
    (hfault : x.holds.fault = false) (hreason : x.reason = none) {trials : Nat}
    (hqual : x.qual = QualRecord.cleared trials) : Lawful r x :=
  .of_faultless hswitched hfault hreason (by rw [hqual]; rfl) (by rw [hqual]; exact nofun) (by rw [hqual]; rfl)

/-- What a role change away from SWITCHED does to its position, notices and marks apart (R9). -/
theorem records_unswitched (p : Pos) (r : Role) :
    KeepsRecords s ((setCondition p .absent (removeOrder p (setRole p r s))).modify p
      (unswitched s.settings.trialCount s.uptime)) := by
  refine .of_newRole p (r := r) (setCondition_settings _ p _) (fun j hj => ?_) (fun _ => ?_) ?_
  · rw [modify_pos, if_neg hj, setCondition_pos, if_neg hj]; rfl
  · rw [modify_pos, if_pos rfl]
    exact lawful_cleared (fun _ => rfl) rfl rfl rfl
  · rw [modify_pos, if_pos rfl]; rfl

theorem records_leaveSwitching (p : Pos) (r : Role) : KeepsRecords s (leaveSwitching p r s) :=
  (((((records_unswitched s p r).trans (records_emitRemoved _ p _ _)).trans (records_emitRemoved _ p _ _)).trans
    (records_emitCleared _ p _)).trans (records_markUnlatched _ _)).trans (records_walkReport _ p _)

/-- What a role change to SWITCHED does to its position, before its notice and report (R10). -/
theorem records_newlySwitched (c : Contacts) (p : Pos) :
    KeepsRecords s ((setCondition p (readContact c p) (setRole p .switched s)).modify p
      (newlySwitched s.settings.trialCount s.uptime s.safety.state)) := by
  refine .of_newRole p (r := .switched) (setCondition_settings _ p _) (fun j hj => ?_) (fun _ => ?_) ?_
  · rw [modify_pos, if_neg hj, setCondition_pos, if_neg hj]; rfl
  · rw [modify_pos, if_pos rfl]
    exact lawful_cleared (fun h => absurd rfl h) rfl rfl rfl
  · rw [modify_pos, if_pos rfl]; rfl

theorem records_enterSwitching (c : Contacts) (p : Pos) : KeepsRecords s (enterSwitching c p s) := by
  rw [enterSwitching_eq]
  exact (((records_newlySwitched s c p).trans (records_emitCleared _ p _)).trans (records_takeTarget _ p)).trans
    (records_handOn _ p _)

/-- A role change between MONITORED and UNUSED (R11). -/
theorem records_rerole {p : Pos} (h : s.role p ≠ .switched) (r : Role) :
    KeepsRecords s (clearRecord p (setRole p r s)) := by
  rw [clearRecord_eq]
  refine KeepsRecords.trans ?_ (records_emitCleared _ p _)
  refine .of_newRole p (r := r) rfl (fun j hj => ?_) (fun hx => ?_) ?_
  · rw [modify_pos, if_neg hj]; rfl
  · obtain ⟨hholds, hreason⟩ := hx.unheld h
    rw [modify_pos, if_pos rfl]
    exact lawful_cleared (fun _ => hholds) (by show (s.pos p).holds.fault = false; rw [hholds]; rfl) hreason rfl
  · rw [modify_pos, if_pos rfl]; rfl

theorem records_changeRole (c : Contacts) (p : Pos) (r : Role) : ∀ t ∈ changeRole c p r s, KeepsRecords s t := by
  intro t ht
  by_cases hswitched : s.role p = .switched
  · cases hrefused : roleChangeRefused p s with
    | true => rw [changeRole_refused c hswitched hrefused] at ht; cases ht
    | false =>
      rw [changeRole_leave c hswitched hrefused] at ht
      cases ht
      exact records_leaveSwitching s p r
  · by_cases hr : r = .switched
    · subst hr
      rw [changeRole_enter c hswitched] at ht
      cases ht
      exact records_enterSwitching s c p
    · rw [changeRole_between c hswitched hr] at ht
      cases ht
      exact records_rerole s hswitched r

/-! ### Settings written (R167) -/

/-- The roles stand, and every position's record takes a step. -/
theorem KeepsRecords.of_map {s t : State} {f : PosState → PosState} (hrole : t.settings.role = s.settings.role)
    (hpositions : t.positions = s.positions.map f) (h : ∀ r x, Passes r x (f x)) : KeepsRecords s t := by
  refine .of_passes (fun p => congrArg (Vector.get · p) hrole) (fun p => ?_)
  have hpos : t.pos p = f (s.pos p) := by rw [State.pos, hpositions, get_map]; rfl
  rw [hpos]
  exact h _ _

theorem put_role_of_ne (st : Settings) {x : Setting} (hx : ∀ p, x ≠ .role p) (v : Nat) :
    (st.put x v).role = st.role := by
  cases x with
  | role p => exact absurd rfl (hx p)
  | number n => cases n <;> rfl
  | speed l => cases l <;> rfl
  | _ => rfl

theorem records_putSetting {x : Setting} (hx : ∀ p, x ≠ .role p) (v : Nat) : KeepsRecords s (putSetting x v s) :=
  .of_passes (fun p => congrArg (Vector.get · p) (put_role_of_ne s.settings hx v)) (fun _ => .refl _ _)

theorem records_applyIfIdle (l : Link) : KeepsRecords s (applyIfIdle l s) := by
  unfold applyIfIdle
  split
  · exact .of_eq rfl rfl
  · exact .refl s

theorem records_afterNumber (n : Number) (v : Nat) : KeepsRecords s (afterNumber n v s) := by
  cases n with
  | routineInterval => exact .of_eq rfl rfl
  | trialCount => exact .of_map rfl rfl (fun _ _ => .of_record (step_trials _) rfl rfl)
  | recheckInterval => exact .of_map rfl rfl (fun _ _ => .of_record (step_timerMap _) rfl rfl)
  | stationP => exact records_applyIfIdle s .p
  | stationS => exact records_applyIfIdle s .s
  | _ => exact .refl s

theorem records_changeSetting (c : Contacts) (x : Setting) (v : Nat) :
    ∀ t ∈ changeSetting c x v s, KeepsRecords s t := by
  intro t ht
  cases x with
  | role p => exact records_changeRole s c p _ t ht
  | peerGroup p => cases ht; exact (records_putSetting s (by simp) v).trans (records_setRatio _ p _)
  | number n => cases ht; exact (records_putSetting s (by simp) v).trans (records_afterNumber _ n v)
  | speed l => cases ht; exact (records_putSetting s (by simp) v).trans (records_applyIfIdle _ l)
  | _ => cases ht; exact records_putSetting s (by simp) v

theorem records_writeApplied (c : Contacts) (code index : Byte) (x : Setting) (v : Nat) :
    KeepsRecords s (writeApplied c code index x v s).1 := by
  unfold writeApplied
  split
  · exact .refl s
  · split
    · next t ht => exact records_changeSetting s c x v t ht
    · exact .refl s

/-! ### Every request, as a frame (R158 to R162) -/

theorem records_modifyPort (q : Port) (f : PortState → PortState) : KeepsRecords s (modifyPort q f s) := .of_eq rfl rfl

theorem records_startNext : KeepsRecords s (startNext s) := (acts_startNext s).keepsRecords (by simp)

theorem records_setSeq (x : Sequencer) : KeepsRecords s { s with seq := x } := .of_eq rfl rfl

theorem records_judgeCode (c : Contacts) (q : Port) (code : Byte) (body : List Byte) :
    KeepsRecords s (judgeCode c q code body s).1 := by
  unfold judgeCode
  generalize Request.ofCode code = request
  cases request with
  | none => exact .refl s
  | some r =>
    cases r with
    | readStatus => exact records_checked s _ _ _ (.refl s)
    | readPosition => refine records_checked s _ _ _ ?_; split <;> exact .refl s
    | readMap => exact records_checked s _ _ _ (.refl s)
    | requestSweep =>
      refine records_checked s _ _ _ ?_
      split
      · exact .refl s
      · split
        · exact .refl s
        · exact (records_setSeq s _).trans (records_startNext _)
    | pinSweep =>
      refine records_checked s _ _ _ ?_
      split
      · exact .refl s
      · split
        · exact .refl s
        · split
          · exact .refl s
          · exact .of_eq rfl rfl
    | readSweep =>
      refine records_checked s _ _ _ ?_
      split
      · split <;> exact .refl s
      · exact .refl s
    | unpinSweep =>
      refine records_checked s _ _ _ ?_
      split
      · exact .of_eq rfl rfl
      · exact .refl s
    | placeHold => exact records_checked s _ _ _ (records_holdRequest s _ q body)
    | releaseHold => exact records_checked s _ _ _ (records_holdRequest s _ q body)
    | clearFault =>
      refine records_checked s _ _ _ ?_
      split
      · exact records_clearFault s _
      · exact .refl s
    | clearSwitch =>
      refine records_checked s _ _ _ ?_
      split
      · exact records_clearSwitch s c _
      · exact .refl s
    | startLocate =>
      refine records_checked s _ _ _ ?_
      split
      · exact .refl s
      · split
        · exact .refl s
        · exact records_startWalk s _
    | readWalk => exact records_checked s _ _ _ (.refl s)
    | fetchNotices => exact records_checked s _ _ _ (.of_eq rfl rfl)
    | readSetting => refine records_checked s _ _ _ ?_; split <;> exact .refl s
    | writeSetting =>
      refine records_checked s _ _ _ ?_
      split
      · exact records_writeApplied s c _ _ _ _
      · exact .refl s
    | saveSettings =>
      refine records_checked s _ _ _ ?_
      split
      · exact .refl s
      · exact .of_eq rfl rfl
    | resetRatio =>
      refine records_checked s _ _ _ ?_
      split
      · exact records_setRatio s _ _
      · exact .refl s

theorem records_sendAnswer (q : Port) (station code : Byte) (reply : Reply) :
    KeepsRecords reply.1 (sendAnswer q station code reply) := .of_eq rfl rfl

theorem records_judgeFrame (q : Port) (station code : Byte) {f : State → Reply} (h : ∀ s, KeepsRecords s (f s).1) :
    KeepsRecords s (judgeFrame q station code f s) := by
  unfold judgeFrame
  split
  · exact ((records_modifyPort s q _).trans (h _)).trans (records_sendAnswer q station code _)
  · exact records_modifyPort s q _

theorem records_receiveRequest (q : Port) (station code : Byte) (body : List Byte) {f : State → Reply}
    (h : ∀ s, KeepsRecords s (f s).1) : KeepsRecords s (receiveRequest q station code body f s) := by
  unfold receiveRequest
  split
  · exact records_judgeFrame s q station code h
  · exact .refl s

theorem records_takeChars (c : Contacts) (q : Port) (chars : List Byte) : KeepsRecords s (takeChars c q chars s) := by
  unfold takeChars judgeChars
  split
  · split
    · exact records_modifyPort s q _
    · exact records_modifyPort s q _
  · split
    · split
      · exact records_judgeFrame s q _ _ (fun s => records_judgeCode s c q _ _)
      · exact records_modifyPort s q _
    · exact records_modifyPort s q _

theorem records_takeChar (c : Contacts) (q : Port) (char : Byte) : KeepsRecords s (takeChar c q char s) := by
  unfold takeChar
  split
  · split
    · exact records_modifyPort s q _
    · exact .refl s
  · exact records_takeChars s c q _
  · exact .refl s

theorem records_discardFrame (q : Port) : KeepsRecords s (discardFrame q s) := by
  unfold discardFrame
  split
  · exact records_modifyPort s q _
  · exact .refl s
  · exact .refl s

/-! ### Sweeps, safety, reset and the store -/

theorem records_learn (r : SweepRecord) : KeepsRecords s (learn r s) := by
  refine .of_passes (fun _ => rfl) (fun p => ?_)
  rw [learn_pos]
  exact .of_same _ rfl rfl rfl

theorem records_handRoutine (r : SweepRecord) (l : Nat) : KeepsRecords s (handRoutine r l s) :=
  ((records_learn s r).trans (.foldl _ (fun s p => records_takePosition s r p) _ _)).trans (records_takeLeakage _ l)

theorem records_handOver (r : SweepRecord) (run : Running) (l : Nat) : KeepsRecords s (handOver r run l s) := by
  unfold handOver
  split
  · exact records_handRoutine s r l
  · exact records_modifyPort s _ _
  · exact records_modifyPort s _ _
  · exact records_modifyPort s _ _
  · split
    · exact records_walkSweep s l
    · exact .refl s

theorem records_completeSweep (r : SweepRecord) (run : Running) (l : Nat) : KeepsRecords s (completeSweep r run l s) :=
  ((records_setSeq s _).trans (records_handOver _ _ run l)).trans (records_startNext _)

theorem records_requestLocate : KeepsRecords s (requestLocate s) := (acts_requestLocate s).keepsRecords (by simp)

theorem records_advanceTo (t : Nat) : KeepsRecords s (advanceTo t s) := .of_eq rfl rfl

theorem records_setSafety (a : SafetyState) (due : Option Nat) (b : Bool) : KeepsRecords s (setSafety a due b s) :=
  .of_eq rfl rfl

theorem safety_ne_fault : Holder.safety ≠ .fault := by decide

theorem switchedPositions_nodup : s.switchedPositions.Nodup := (List.nodup_finRange 24).filter _

theorem records_trip : KeepsRecords s (trip s) :=
  (((records_setSafety s _ _ _).trans (records_changeHolder _ safety_ne_fault _ _ (switchedPositions_nodup s))).trans
    (records_emit _ _ _ _ _)).trans (records_abandonWalk _)

theorem records_restore : KeepsRecords s (restore s) :=
  (((records_setSafety s _ _ _).trans (records_changeHolder _ safety_ne_fault _ _ (List.nodup_finRange 24))).trans
    (records_emit _ _ _ _ _)).trans (records_reclosingAfter _ _ _ _ _)

theorem records_startWrite : KeepsRecords s (startWrite s) := .of_eq (by simp) (by simp)

theorem records_endSave (k : CopyName) (c : Copy Settings) (good : Bool) : KeepsRecords s (endSave k c good s) :=
  .of_eq rfl rfl

theorem records_endRetained (k : CopyName) (c : Copy Retained) (good : Bool) :
    KeepsRecords s (endRetained k c good s) := by
  unfold endRetained
  dsimp only
  split
  · exact .of_eq rfl rfl
  · exact .of_eq (by simp) (by simp)

theorem lawful_startPosition (c : Contacts) (st : Settings) (r : Retained) (p : Pos) :
    Lawful ((settled st r).role.get p) (startPosition c (settled st r) r p) := by
  have hrole : (settled st r).role.get p = if r.keepsOpen p then .switched else st.role.get p := tabulate_get _ p
  cases hl : r.latched.get p with
  | some k =>
    have hswitched : (settled st r).role.get p = .switched := by rw [hrole]; simp [Retained.keepsOpen, hl]
    refine ⟨fun h => absurd hswitched h, ?_, ?_, ?_, ?_⟩ <;>
      simp [startPosition, startHolds, startRecord, hl, QualState.holdsFault, QualState.hasReason]
  | none =>
    refine lawful_cleared (fun h => ?_) ?_ hl (trials := (settled st r).trialCount) ?_
    · have hkeeps : r.keepsOpen p = false := by
        by_contra hk
        exact h (by rw [hrole, if_pos (by simpa using hk)])
      have hlock : r.lockouts.get p = false := by simpa [Retained.keepsOpen, hl] using hkeeps
      simp [startPosition, startHolds, hl, hlock, h, HoldSet.empty]
    · simp [startPosition, startHolds, hl]
    · simp [startPosition, startRecord, hl]

theorem formed_startRecord (trials : Nat) (latched : Option Reason) : (startRecord trials latched).formed = true := by
  cases latched <;> rfl

/-- RESET leaves every position lawful and every record well formed, whatever the store holds (R60, R97, R172). -/
theorem records_startUp (c : Contacts) (loopClosed keyOn : Bool) : KeepsRecords s (startUp c loopClosed keyOn s) := by
  refine KeepsRecords.trans ?_ ((records_takeTargets _ _).trans (records_formBatch _))
  refine ⟨fun _ => (isolationLaws_iff _).2 (fun p => ?_), fun _ p => ?_⟩
  · rw [startState_pos]; exact lawful_startPosition ..
  · rw [startState_pos]; exact formed_startRecord ..

end

/-! ### Every command -/

/-- Whatever state an outcome leads to, the laws and the form are kept there. -/
def RecordsKeptBy (s : State) (o : Host.Outcome State Fault Refusal) : Prop := ∀ t, o = .next t → KeepsRecords s t

theorem RecordsKeptBy.next {s t : State} (h : KeepsRecords s t) : RecordsKeptBy s (.next t) := by
  intro u hu
  cases hu
  exact h

theorem RecordsKeptBy.concluded {s t : State} (h : KeepsRecords s t) : RecordsKeptBy s (.next (conclude s t)) :=
  .next (h.trans (records_conclude _ s))

theorem RecordsKeptBy.stay (s : State) : RecordsKeptBy s (.next s) := .next (.refl s)

/-- The operation takes place where its condition holds. -/
theorem RecordsKeptBy.ite {s : State} {c : Prop} [Decidable c] {o o' : Host.Outcome State Fault Refusal}
    (h : c → RecordsKeptBy s o) (h' : RecordsKeptBy s o') : RecordsKeptBy s (if c then o else o') := by
  split
  · next hc => exact h hc
  · exact h'

theorem records_request {c : Instr} {f : RequestFrame} (h : requestOf c = some f) (s : State) :
    RecordsKeptBy s (exec c s) := by
  have hreceive := records_receiveRequest s f.port f.station f.code f.body
    (fun s => records_judgeCode s f.contacts f.port f.code f.body)
  rcases exec_request h s with he | he
  · rw [he]; exact .next hreceive
  · rw [he]; exact .concluded hreceive

theorem declares_iff (s : State) (p : Pos) (c : Abnormal) :
    s.declares p c = true ↔
      s.role p ≠ .unused
        ∧ ((s.pos p).qual.state = .clear ∨ (s.pos p).qual.state = .suspect ∨ (s.pos p).qual.state = .recheck)
        ∧ s.settings.debounce c ≤ (afterAbnormal c (s.pos p).qual).count := by
  simp [State.declares, and_assoc, or_assoc]

theorem abandons_iff (s : State) (p : Pos) :
    s.abandons p = true ↔
      s.role p ≠ .unused ∧ (s.pos p).qual.state = .suspect ∧ s.settings.holdLimit ≤ (s.pos p).qual.holdCount + 1 := by
  simp [State.abandons, and_assoc]

theorem timesOut_iff (s : State) (p : Pos) :
    s.timesOut p = true ↔
      s.role p ≠ .unused ∧ (s.pos p).qual.state = .waiting ∧ ∃ t, (s.pos p).qual.timer = some t ∧ t ≤ 1 := by
  cases h : (s.pos p).qual.timer <;> simp [State.timesOut, h, and_assoc]

theorem confirms_iff (s : State) (a : QualState) (p : Pos) :
    s.confirms a p = true ↔
      s.role p ≠ .unused ∧ (s.pos p).qual.state = a ∧ s.settings.confirmCount ≤ confirmedOnce (s.pos p).qual := by
  simp [State.confirms, and_assoc]

theorem records_execChannelBurstComplete (s : State) (v : Samples) :
    RecordsKeptBy s (execChannelBurstComplete v s) := by
  unfold execChannelBurstComplete
  split
  · exact .ite (fun _ => .next (records_setSeq s _)) (.stay s)
  · exact .stay s

theorem records_execSweepComplete (s : State) (v : Samples) : RecordsKeptBy s (execSweepComplete v s) := by
  unfold execSweepComplete
  split
  · exact .ite (fun _ => .concluded (records_completeSweep s _ _ _)) (.stay s)
  · exact .stay s

/-- Every command that is no request row keeps the laws and the form. -/
theorem records_event {c : Instr} (h : requestOf c = none) (s : State) : RecordsKeptBy s (exec c s) := by
  cases c with
  | frameDiscarded q => exact .ite (fun _ => .next (records_modifyPort s q _)) (.stay s)
  | lengthDiscard q => exact .ite (fun _ => .next (records_modifyPort s q _)) (.stay s)
  | characterGapTimeout q => exact .next (records_discardFrame s q)
  | characterError q => exact .next (records_discardFrame s q)
  | answerSent q =>
    simp only [exec, execAnswerSent]
    split
    · exact .next (records_modifyPort s q _)
    · exact .stay s
    · exact .stay s
  | reset c loopClosed keyOn => exact .next (records_startUp s c loopClosed keyOn)
  | loopOpening =>
    simp only [exec, execLoopOpening]
    split
    · exact .concluded (records_trip s)
    · exact .next (records_setSafety s _ _ _)
    · exact .stay s
  | loopClosing =>
    simp only [exec, execLoopClosing]
    split
    · exact .next (records_setSafety s _ _ _)
    · exact .stay s
    · exact .stay s
  | restoreTimerExpiry =>
    simp only [exec, execRestoreTimerExpiry]
    split
    · exact .concluded ((records_advanceTo s _).trans (records_restore _))
    · exact .stay s
  | keyChange => exact .next (.of_eq rfl rfl)
  | routineTimerExpiry =>
    have hrearm : KeepsRecords s (rearmRoutine (advanceTo (s.seq.routineDue * 1000) s)) := .of_eq rfl rfl
    exact .ite (fun _ => .next hrearm) (.next ((hrearm.trans (records_setSeq _ _)).trans (records_startNext _)))
  | sweepStart => exact .next (records_startNext s)
  | channelBurstComplete v => exact records_execChannelBurstComplete s v
  | sweepComplete v => exact records_execSweepComplete s v
  | declaration p c =>
    exact .ite (fun hc => .concluded (records_countAbnormal s ((declares_iff s p c).1 hc).2.1 c)) (.stay s)
  | suspicionAbandoned p =>
    exact .ite (fun hc => .next (records_holdSuspicion s ((abandons_iff s p).1 hc).2.1)) (.stay s)
  | recheckTimerExpiry p =>
    exact .ite (fun hc => .concluded (records_recheckExpired s ((timesOut_iff s p).1 hc).2.1)) (.stay s)
  | trialSuccess p =>
    exact .ite (fun hc => .next (records_confirmTrial s ((confirms_iff s _ p).1 hc).2.1)) (.stay s)
  | reportedRecovery p =>
    exact .ite (fun hc => .next (records_confirmRecovery s ((confirms_iff s _ p).1 hc).2.1)) (.stay s)
  | residualDebounceReached p => exact .ite (fun _ => .concluded (records_countResidual s p)) (.stay s)
  | leakageAlarmEntry l => exact .ite (fun _ => .next (records_takeLeakage s _)) (.stay s)
  | leakageAlarmClear l => exact .ite (fun _ => .next (records_takeLeakage s _)) (.stay s)
  | settleTimerExpiry =>
    simp only [exec, execSettleTimerExpiry]
    split
    · exact .next (((records_advanceTo s _).trans (records_setWalk _ _)).trans (records_requestLocate _))
    · exact .stay s
  | batchStart => exact .next (records_formBatch s)
  | bypassSettleExpiry =>
    simp only [exec, execBypassSettleExpiry]
    split
    · exact .ite (fun _ => .next (.of_eq rfl rfl)) (.stay s)
    · exact .stay s
  | coilPulseEnd =>
    simp only [exec, execCoilPulseEnd]
    split
    · exact .ite (fun _ => .next (.of_eq rfl rfl)) (.ite (fun _ => .next (.of_eq rfl rfl)) (.stay s))
    · exact .stay s
  | nonOverlapExpiry =>
    simp only [exec, execNonOverlapExpiry]
    split
    · exact .ite (fun _ => .next (.of_eq rfl rfl)) (.stay s)
    · exact .stay s
  | batchCompletion c =>
    simp only [exec, execBatchCompletion]
    split
    · exact .ite (fun _ => .concluded ((records_advanceTo s _).trans (records_completeBatch _ c _))) (.stay s)
    · exact .stay s
  | hourlyRatioMark =>
    have hsnapshot : KeepsRecords s (snapshotRatios (advanceTo (s.nextHour * 1000) s)) := .of_eq rfl rfl
    exact .concluded (hsnapshot.trans (records_markRetained _))
  | saveWriteStart =>
    simp only [exec, execSaveWriteStart]
    split
    · exact .next (records_startWrite s)
    · exact .stay s
  | saveComplete good =>
    simp only [exec, execSaveComplete]
    split
    · exact .next ((records_endSave s _ _ _).trans (records_startWrite _))
    · exact .stay s
  | retainedWriteStart =>
    simp only [exec, execRetainedWriteStart]
    split
    · exact .next (records_startWrite s)
    · exact .stay s
  | retainedWriteComplete good =>
    simp only [exec, execRetainedWriteComplete]
    split
    · exact .next ((records_endRetained s _ _ _).trans (records_startWrite _))
    · exact .stay s
  | characterReceived q char c => exact .concluded (records_takeChar s c q char)
  | unknownRequestCode q station code body =>
    have hknown : (Request.ofCode code).isSome = true := by
      by_contra hk
      rw [requestOf, if_neg hk] at h
      cases h
    simp only [exec, execUnknownRequestCode, if_pos hknown]
    exact .stay s
  | _ => cases h

theorem records_exec (c : Instr) (s : State) : RecordsKeptBy s (exec c s) := by
  cases hc : requestOf c with
  | some f => exact records_request hc s
  | none => exact records_event hc s

/-- Settles O52: each command passes every position from one lawful content to another. -/
theorem isolationLawsKept : Obligations.IsolationLawsKept := fun c s t hs he => (records_exec c s t he).isolation hs

/-- Settles O53: each command passes every record from one form of Table 4-1 to another. -/
theorem recordsFormedKept : Obligations.RecordsFormedKept := fun c s t hs he => (records_exec c s t he).formed hs

end Sys2Proof.Machine
end

section
/-! PROOFS. A routine class taken by a position's record (R61 to R64, R69, R71, R76, Table 4-2): one equation for each
record state and kind of class. -/

namespace Sys2Proof.Machine

/-! ### The records counted -/

section
variable {q : QualRecord}

theorem afterAbnormal_clear (h : q.state = .clear) (c : Abnormal) :
    afterAbnormal c q = { q with state := .suspect, cls := some c, count := 1, holdCount := 0 } := by
  unfold afterAbnormal
  rw [h]

theorem afterAbnormal_suspect (h : q.state = .suspect) (c : Abnormal) :
    afterAbnormal c q =
      { q with cls := some c, count := if q.cls = some c then q.count + 1 else 1, holdCount := 0 } := by
  unfold afterAbnormal
  rw [counted_eq]
  obtain ⟨state, cls, count, hold, reason, timer, confirm, trials⟩ := q
  cases h
  rfl

theorem afterAbnormal_recheck (h : q.state = .recheck) (c : Abnormal) :
    afterAbnormal c q =
      { q with cls := some c, count := if q.cls = some c then q.count + 1 else 1, confirm := some 0 } := by
  unfold afterAbnormal
  rw [counted_eq]
  obtain ⟨state, cls, count, hold, reason, timer, confirm, trials⟩ := q
  cases h
  rfl

end

/-- The inconclusive classes (Table 4-2). -/
theorem kind_inconclusive {cls : Class} (h : cls = .dim ∨ cls = .noRef ∨ cls = .unsettled ∨ cls = .isolated
    ∨ cls = .residual ∨ cls = .excluded) : cls.kind = .inconclusive := by
  rcases h with rfl | rfl | rfl | rfl | rfl | rfl <;> rfl

/-! ### A class taken, by the state of the record -/

theorem takeClass_unused {s : State} {p : Pos} (hr : s.role p = .unused) (cls : Class) (recorded : Condition) :
    takeClass p cls recorded s = s := if_pos hr

section
variable {s : State} {p : Pos} {cls : Class} {recorded : Condition} (hr : s.role p ≠ .unused)
include hr

theorem takeClass_clear_abnormal (h : (s.pos p).qual.state = .clear) (c : Abnormal) :
    takeClass p (.abnormal c) recorded s = countAbnormal p c s := by
  unfold takeClass
  rw [if_neg hr, h]
  rfl

theorem takeClass_clear_other (h : (s.pos p).qual.state = .clear) (hk : ∀ c, cls.kind ≠ .abnormal c) :
    takeClass p cls recorded s = s := by
  unfold takeClass
  rw [if_neg hr, h]
  cases hc : cls.kind with
  | abnormal c => exact absurd hc (hk c)
  | _ => rfl

theorem takeClass_suspect_abnormal (h : (s.pos p).qual.state = .suspect) (c : Abnormal) :
    takeClass p (.abnormal c) recorded s = countAbnormal p c s := by
  unfold takeClass
  rw [if_neg hr, h]
  rfl

theorem takeClass_suspect_normal (h : (s.pos p).qual.state = .suspect) :
    takeClass p .normal recorded s = setQual p (unsuspected (s.pos p).qual) s := by
  unfold takeClass
  rw [if_neg hr, h]
  rfl

theorem takeClass_suspect_inconclusive (h : (s.pos p).qual.state = .suspect) (hk : cls.kind = .inconclusive) :
    takeClass p cls recorded s = holdSuspicion p s := by
  unfold takeClass
  rw [if_neg hr, h, hk]

theorem takeClass_waiting (h : (s.pos p).qual.state = .waiting) : takeClass p cls recorded s = waitingSweep p s := by
  unfold takeClass
  rw [if_neg hr, h]

theorem takeClass_recheck_abnormal (h : (s.pos p).qual.state = .recheck) (c : Abnormal) :
    takeClass p (.abnormal c) .closed s = countAbnormal p c s := by
  unfold takeClass
  rw [if_neg hr, h]
  rfl

theorem takeClass_recheck_normal (h : (s.pos p).qual.state = .recheck) :
    takeClass p .normal .closed s = confirmTrial p s := by
  unfold takeClass
  rw [if_neg hr, h]
  rfl

/-- A trial goes by what a CLOSED switch shows, and by nothing inconclusive (R71). -/
theorem takeClass_recheck_other (h : (s.pos p).qual.state = .recheck)
    (hk : cls.kind = .inconclusive ∨ cls.kind = .noEffect ∨ recorded ≠ .closed) : takeClass p cls recorded s = s := by
  unfold takeClass
  rw [if_neg hr, h]
  rcases hk with hk | hk | hk
  · rw [hk]
  · rw [hk]
  · cases cls.kind with
    | abnormal c => exact if_neg hk
    | normal => exact if_neg hk
    | _ => rfl

theorem takeClass_reported_normal (h : (s.pos p).qual.state = .reported) :
    takeClass p .normal recorded s = confirmRecovery p s := by
  unfold takeClass
  rw [if_neg hr, h]
  rfl

theorem takeClass_reported_abnormal (h : (s.pos p).qual.state = .reported) (c : Abnormal) :
    takeClass p (.abnormal c) recorded s = setQual p { (s.pos p).qual with confirm := some 0 } s := by
  unfold takeClass
  rw [if_neg hr, h]
  rfl

theorem takeClass_reported_inconclusive (h : (s.pos p).qual.state = .reported) (hk : cls.kind = .inconclusive) :
    takeClass p cls recorded s = s := by
  unfold takeClass
  rw [if_neg hr, h, hk]

theorem takeClass_faulted (h : (s.pos p).qual.state = .declared ∨ (s.pos p).qual.state = .latched) :
    takeClass p cls recorded s = s := by
  unfold takeClass
  rw [if_neg hr]
  rcases h with h | h <;> rw [h]

end

/-- The class UNUSED moves a WAITING record's timer alone (Table 4-2). -/
theorem takeClass_noEffect {s : State} {p : Pos} (h : (s.pos p).qual.state ≠ .waiting) (recorded : Condition) :
    takeClass p .unused recorded s = s := by
  unfold takeClass
  split
  · rfl
  · cases hs : (s.pos p).qual.state with
    | waiting => exact absurd hs h
    | _ => rfl

/-! ### What a record then does -/

section
variable {s : State} {p : Pos}

theorem countAbnormal_below {c : Abnormal} (h : (afterAbnormal c (s.pos p).qual).count < s.settings.debounce c) :
    countAbnormal p c s = setQual p (afterAbnormal c (s.pos p).qual) s := if_neg (not_le.2 h)

theorem countAbnormal_reached {c : Abnormal} (h : s.settings.debounce c ≤ (afterAbnormal c (s.pos p).qual).count) :
    countAbnormal p c s = declare p c (setQual p (afterAbnormal c (s.pos p).qual) s) := if_pos h

theorem holdSuspicion_ends (h : s.settings.holdLimit ≤ (s.pos p).qual.holdCount + 1) :
    holdSuspicion p s = setQual p (unsuspected (s.pos p).qual) s := if_pos h

theorem holdSuspicion_held (h : (s.pos p).qual.holdCount + 1 < s.settings.holdLimit) :
    holdSuspicion p s = setQual p { (s.pos p).qual with holdCount := (s.pos p).qual.holdCount + 1 } s :=
  if_neg (not_le.2 h)

theorem confirmedOnce_of_some {q : QualRecord} {n : Nat} (h : q.confirm = some n) : confirmedOnce q = n + 1 := by
  rw [confirmedOnce, h]
  rfl

theorem confirmTrial_below (h : confirmedOnce (s.pos p).qual < s.settings.confirmCount) :
    confirmTrial p s =
      setQual p { (s.pos p).qual with confirm := some (confirmedOnce (s.pos p).qual), cls := none, count := 0 } s :=
  if_neg (not_le.2 h)

theorem confirmTrial_reached (h : s.settings.confirmCount ≤ confirmedOnce (s.pos p).qual) :
    confirmTrial p s = recovered p s := if_pos h

theorem confirmRecovery_below (h : confirmedOnce (s.pos p).qual < s.settings.confirmCount) :
    confirmRecovery p s =
      setQual p { (s.pos p).qual with confirm := some (confirmedOnce (s.pos p).qual) } s :=
  if_neg (not_le.2 h)

theorem confirmRecovery_reached (h : s.settings.confirmCount ≤ confirmedOnce (s.pos p).qual) :
    confirmRecovery p s = recovered p s := if_pos h

theorem waitingSweep_runs {t : Nat} (h : (s.pos p).qual.timer = some t) (ht : 1 < t) :
    waitingSweep p s = setQual p { (s.pos p).qual with timer := some (t - 1) } s := by
  unfold waitingSweep
  rw [h]
  exact if_neg (not_le.2 ht)

theorem waitingSweep_expires {t : Nat} (h : (s.pos p).qual.timer = some t) (ht : t ≤ 1) :
    waitingSweep p s = recheckExpired p s := by
  unfold waitingSweep
  rw [h]
  exact if_pos ht

theorem exec_declaration {c : Abnormal} (hr : s.role p ≠ .unused)
    (hstate : (s.pos p).qual.state = .clear ∨ (s.pos p).qual.state = .suspect ∨ (s.pos p).qual.state = .recheck)
    (h : s.settings.debounce c ≤ (afterAbnormal c (s.pos p).qual).count) :
    exec (.declaration p c) s = .next (conclude s (countAbnormal p c s)) :=
  if_pos ((declares_iff s p c).2 ⟨hr, hstate, h⟩)

end

/-- Settles O23: one equation of `takeClass` for each record state and kind of class. -/
theorem classTaken : Obligations.ClassTaken := by
  intro s p cls recorded st q takes inconclusive
  refine ⟨?unused, fun hr => ⟨?abnormal, ?clear, fun hs hc => ?normal, fun hs hi hn => ?held, fun hs hi hn => ?ended,
    fun t hs ht h1 => ?timer, fun n hs hc hrec hn hlt => ?trial, fun hs h => ?recheck, fun n hs hc hn hlt => ?reported,
    fun hs hi => takeClass_reported_inconclusive hr hs (kind_inconclusive hi), takeClass_faulted hr⟩⟩
  case unused =>
    rintro (hr | ⟨rfl, hs⟩)
    · exact takeClass_unused hr cls recorded
    · exact takeClass_noEffect hs recorded
  case abnormal =>
    rintro c rfl n
    refine ⟨fun hs h1 => ?_, fun hs hn => ?_, fun hs hrec hn => ?_, ?_, fun hs => takeClass_reported_abnormal hr hs c⟩
    · have ha := afterAbnormal_clear hs c
      exact (takeClass_clear_abnormal hr hs c).trans (ha ▸ countAbnormal_below (by rw [ha]; exact h1))
    · have ha := afterAbnormal_suspect hs c
      exact (takeClass_suspect_abnormal hr hs c).trans (ha ▸ countAbnormal_below (by rw [ha]; exact hn))
    · subst hrec
      have ha := afterAbnormal_recheck hs c
      exact (takeClass_recheck_abnormal hr hs c).trans (ha ▸ countAbnormal_below (by rw [ha]; exact hn))
    · rintro (⟨hs, hn⟩ | ⟨hs, hn⟩ | ⟨hs, rfl, hn⟩)
      · rw [takeClass_clear_abnormal hr hs]
        exact exec_declaration hr (.inl hs) (by rw [afterAbnormal_clear hs]; exact hn)
      · rw [takeClass_suspect_abnormal hr hs]
        exact exec_declaration hr (.inr (.inl hs)) (by rw [afterAbnormal_suspect hs]; exact hn)
      · rw [takeClass_recheck_abnormal hr hs]
        exact exec_declaration hr (.inr (.inr hs)) (by rw [afterAbnormal_recheck hs]; exact hn)
  case clear =>
    rintro hs (rfl | hi)
    · exact takeClass_clear_other hr hs (fun _ => nofun)
    · exact takeClass_clear_other hr hs (fun c => by rw [kind_inconclusive hi]; exact nofun)
  case normal => subst hc; exact takeClass_suspect_normal hr hs
  case held => exact (takeClass_suspect_inconclusive hr hs (kind_inconclusive hi)).trans (holdSuspicion_held hn)
  case ended => exact (takeClass_suspect_inconclusive hr hs (kind_inconclusive hi)).trans (holdSuspicion_ends hn)
  case timer => exact (takeClass_waiting hr hs).trans (waitingSweep_runs ht h1)
  case trial =>
    subst hc hrec
    have hone := confirmedOnce_of_some hn
    exact (takeClass_recheck_normal hr hs).trans (hone ▸ confirmTrial_below (hone ▸ hlt))
  case recheck => exact takeClass_recheck_other hr hs (h.imp kind_inconclusive .inr)
  case reported =>
    subst hc
    have hone := confirmedOnce_of_some hn
    exact (takeClass_reported_normal hr hs).trans (hone ▸ confirmRecovery_below (hone ▸ hlt))

end Sys2Proof.Machine
end

section
/-! PROOFS. Condition reports (R68, R74, R79, R88, R140, R141, R143): what each does in the Fault Qualifier and in the
walk, case by case. -/

namespace Sys2Proof.Machine

/-! ### In the Fault Qualifier -/

/-- Rechecks are offered to LOW and OPEN faults alone (R68). -/
theorem rechecked_iff (r : Option Reason) :
    rechecked r = true ↔ r = some (.fault .low) ∨ r = some (.fault .opened) := by
  rcases r with _ | (_ | _ | _ | _) | _ <;> simp [rechecked]

section
variable {s : State} {p : Pos}

theorem openReport_offered (hstate : (s.pos p).qual.state = .declared)
    (hreason : rechecked (s.pos p).qual.reason = true)
    (htrials : 0 < (s.pos p).qual.trials) :
    openReport p s =
      setQual p { (s.pos p).qual with state := .waiting, timer := some s.settings.recheckInterval } s := by
  rw [openReport, if_pos hstate, if_pos ⟨hreason, htrials⟩]
  rfl

theorem openReport_latched (hstate : (s.pos p).qual.state = .declared)
    (h : ¬ (rechecked (s.pos p).qual.reason = true ∧ 0 < (s.pos p).qual.trials)) : openReport p s = latch p s := by
  rw [openReport, if_pos hstate, if_neg h]

theorem openReport_other (h : (s.pos p).qual.state ≠ .declared) : openReport p s = s := by
  rw [openReport, if_neg h]

theorem faultReport_latched (h : (s.pos p).qual.state = .declared ∨ (s.pos p).qual.state = .waiting) :
    faultReport p s = latch p s := by
  unfold faultReport
  rcases h with h | h <;> rw [h]

theorem faultReport_recheck (h : (s.pos p).qual.state = .recheck) :
    faultReport p s = changeHolds .fault true (s.pos p).qual.reason [p] (latch p s) := by
  unfold faultReport
  rw [h]

theorem faultReport_other (hd : (s.pos p).qual.state ≠ .declared) (hw : (s.pos p).qual.state ≠ .waiting)
    (hr : (s.pos p).qual.state ≠ .recheck) : faultReport p s = s := by
  unfold faultReport
  split
  · contradiction
  · contradiction
  · contradiction
  · rfl

/-- A switch fault is reported in one way, whichever it is (R74). -/
theorem qualReport_fault {c : Condition} (h : c = .jammedClosed ∨ c = .jammedOpen ∨ c = .conductingOpen) :
    qualReport p c s = faultReport p s := by
  rcases h with rfl | rfl | rfl <;> rfl

/-! ### In the walk -/

theorem walkReport_elsewhere {c : Condition} (h : s.walk.candidate ≠ some p) : walkReport p c s = s := if_neg h

section
variable (hcandidate : s.walk.candidate = some p)
include hcandidate

theorem walkReport_opened (h : s.walk.state = .opening) : walkReport p .opened s = enterSettling s := by
  unfold walkReport
  rw [if_pos hcandidate, h]

theorem walkReport_jammed (h : s.walk.state = .opening) : walkReport p .jammedClosed s = skipJammed p s := by
  unfold walkReport
  rw [if_pos hcandidate, h]

theorem walkReport_reclosing (h : s.walk.state = .reclosing) (c : Condition) :
    walkReport p c s = reclosingTest p s := by
  unfold walkReport
  rw [if_pos hcandidate, h]

theorem reclosingTest_settled (h : s.walk.state = .reclosing)
    (hsettled : settledAgainst (s.pos p).condition (s.pos p).holds.target = true) :
    reclosingTest p s = nextCandidate s := if_pos ⟨h, hcandidate, hsettled⟩

end

theorem reclosingTest_unsettled (h : settledAgainst (s.pos p).condition (s.pos p).holds.target = false) :
    reclosingTest p s = s := if_neg (fun hc => Bool.noConfusion (h.symm.trans hc.2.2))

/-- A report that is neither OPEN nor JAMMED_CLOSED in OPENING, nor made in RECLOSING, does nothing in the walk. -/
theorem walkReport_idle {c : Condition} (hreclosing : s.walk.state ≠ .reclosing)
    (h : s.walk.state = .opening → c ≠ .opened ∧ c ≠ .jammedClosed) : walkReport p c s = s := by
  unfold walkReport
  split
  · split
    · next hw => exact absurd rfl (h hw).1
    · next hw => exact absurd rfl (h hw).2
    · contradiction
    · rfl
  · rfl

end

/-- Settles O27: one equation for each report in each record state, and in each walk state. -/
theorem reportsHandedOn : Obligations.ReportsHandedOn := by
  intro s p c q w offered latched fault
  have hoffered : offered ↔ rechecked q.reason = true ∧ 0 < q.trials := and_congr_left' (rechecked_iff _).symm
  refine ⟨rfl, ?offered, ?refused, ?closed, ?latched, ?interrupted, ?nothing, ?opened, ?jammed, ?settled, ?idle⟩
  case offered =>
    rintro rfl hstate ho
    exact openReport_offered hstate (hoffered.1 ho).1 (hoffered.1 ho).2
  case refused =>
    rintro rfl hstate ho
    exact openReport_latched hstate (mt hoffered.2 ho)
  case closed => rintro rfl; rfl
  case latched =>
    intro hf hstate
    exact (qualReport_fault hf).trans (faultReport_latched hstate)
  case interrupted =>
    intro hf hstate
    exact (qualReport_fault hf).trans (faultReport_recheck hstate)
  case nothing =>
    rintro (⟨rfl, hstate⟩ | rfl | rfl | ⟨hf, hd, hw, hr⟩)
    · exact openReport_other hstate
    · rfl
    · rfl
    · exact (qualReport_fault hf).trans (faultReport_other hd hw hr)
  case opened =>
    rintro hc hw rfl
    exact walkReport_opened hc hw
  case jammed =>
    rintro hc hw rfl
    exact walkReport_jammed hc hw
  case settled =>
    intro hc hw hsettled
    exact (walkReport_reclosing hc hw c).trans (reclosingTest_settled hc hw hsettled)
  case idle =>
    rintro (hc | ⟨ho, hr⟩ | ⟨ho, hopen, hjam⟩ | ⟨hr, hunsettled⟩)
    · exact walkReport_elsewhere hc
    · exact walkReport_idle hr (fun h => absurd h ho)
    · exact walkReport_idle (by rw [ho]; decide) (fun _ => ⟨hopen, hjam⟩)
    · by_cases hc : w.candidate = some p
      · exact (walkReport_reclosing hc hr c).trans (reclosingTest_unsettled hunsettled)
      · exact walkReport_elsewhere hc

end Sys2Proof.Machine
end

section
/-! PROOFS. DECLARATION (R62, R63, R65 to R68, R71): the record counted and declared in one, and what the condition that
stands makes of it. -/

namespace Sys2Proof.Machine

theorem setQual_setQual (p : Pos) (q q' : QualRecord) (s : State) : setQual p q' (setQual p q s) = setQual p q' s :=
  modify_modify s p _ _

theorem modifyQual_setQual (p : Pos) (f : QualRecord → QualRecord) (q : QualRecord) (s : State) :
    modifyQual p f (setQual p q s) = setQual p (f q) s := by
  rw [modifyQual, setQual_pos, if_pos rfl, setQual_setQual]

/-- A record that has counted a class up to a declaration of it, its state apart (R62, R63, R65, R71). -/
def declaring (c : Abnormal) (q : QualRecord) : QualRecord :=
  { q with
    cls := some c, count := if q.state ≠ .clear ∧ q.cls = some c then q.count + 1 else 1
    holdCount := 0, reason := some (.fault c), confirm := none }

section
variable {q : QualRecord} (h : q.state = .clear ∨ q.state = .suspect ∨ q.state = .recheck) (c : Abnormal)
include h

theorem afterAbnormal_count :
    (afterAbnormal c q).count = if q.state ≠ .clear ∧ q.cls = some c then q.count + 1 else 1 := by
  rcases h with h | h | h
  · simp [afterAbnormal_clear h, h]
  · simp [afterAbnormal_suspect h, h]
  · simp [afterAbnormal_recheck h, h]

theorem declaredRecord_afterAbnormal :
    declaredRecord c (afterAbnormal c q) = { declaring c q with state := .declared } := by
  rcases h with h | h | h
  · simp [afterAbnormal_clear h, declaredRecord, declaring, h]
  · simp [afterAbnormal_suspect h, declaredRecord, declaring, h]
  · simp [afterAbnormal_recheck h, declaredRecord, declaring, h]

theorem reportedRecord_afterAbnormal :
    reportedRecord c (afterAbnormal c q) = { declaring c q with state := .reported, confirm := some 0 } := by
  rcases h with h | h | h
  · simp [afterAbnormal_clear h, reportedRecord, declaring, h]
  · simp [afterAbnormal_suspect h, reportedRecord, declaring, h]
  · simp [afterAbnormal_recheck h, reportedRecord, declaring, h]

end

theorem declare_monitored {s : State} {p : Pos} (hr : s.role p = .monitored) (c : Abnormal) (q : QualRecord) :
    declare p c (setQual p q s) =
      emit .fault .set (some p) (.reason (.fault c)) (setQual p (reportedRecord c q) s) := by
  have hrole : (setQual p q s).role p = .monitored := hr
  unfold declare
  rw [hrole]
  simp only [modifyQual_setQual]

theorem declare_switched {s : State} {p : Pos} (hr : s.role p = .switched) (c : Abnormal) (q : QualRecord) :
    declare p c (setQual p q s) = declaredStanding p (insertFault p c (setQual p (declaredRecord c q) s)) := by
  have hrole : (setQual p q s).role p = .switched := hr
  unfold declare
  rw [hrole]
  simp only [modifyQual_setQual]

section
variable {s : State} {p : Pos} {c : Abnormal}
  (hstate : (s.pos p).qual.state = .clear ∨ (s.pos p).qual.state = .suspect ∨ (s.pos p).qual.state = .recheck)
  (hn : s.settings.debounce c ≤ (afterAbnormal c (s.pos p).qual).count)
include hstate hn

/-- A MONITORED position becomes REPORTED, and orders nothing (R67). -/
theorem exec_declaration_monitored (hr : s.role p = .monitored) :
    exec (.declaration p c) s =
      .next (emit .fault .set (some p) (.reason (.fault c))
        (setQual p { declaring c (s.pos p).qual with state := .reported, confirm := some 0 } s)) := by
  have hcounted : countAbnormal p c s = emit .fault .set (some p) (.reason (.fault c))
      (setQual p { declaring c (s.pos p).qual with state := .reported, confirm := some 0 } s) := by
    rw [countAbnormal_reached hn, declare_monitored hr, reportedRecord_afterAbnormal hstate]
  rw [exec_declaration (by rw [hr]; decide) hstate hn, hcounted]
  exact congrArg _ (conclude_id rfl rfl)

/-- A SWITCHED position becomes DECLARED with FAULT inserted, and goes by the condition that stands (R65, R68). -/
theorem exec_declaration_switched (hr : s.role p = .switched) :
    exec (.declaration p c) s =
      .next (conclude s (declaredStanding p
        (insertFault p c (setQual p { declaring c (s.pos p).qual with state := .declared } s)))) := by
  rw [exec_declaration (by rw [hr]; decide) hstate hn, countAbnormal_reached hn, declare_switched hr,
    declaredRecord_afterAbnormal hstate]

end

/-! ### What the condition makes of a declaration (R68) -/

section
variable {s : State} {p : Pos}

theorem declaredStanding_quiet (h : (s.pos p).condition = .closed ∨ (s.pos p).condition = .moving
    ∨ (s.pos p).condition = .absent) : declaredStanding p s = s := by
  unfold declaredStanding
  rcases h with h | h | h <;> rw [h]

theorem declaredStanding_opened (h : (s.pos p).condition = .opened) : declaredStanding p s = openReport p s := by
  unfold declaredStanding
  rw [h]

theorem declaredStanding_fault (h : (s.pos p).condition = .jammedClosed ∨ (s.pos p).condition = .jammedOpen
    ∨ (s.pos p).condition = .conductingOpen) : declaredStanding p s = faultReport p s := by
  unfold declaredStanding
  rcases h with h | h | h <;> rw [h]

end

/-- The insertion of FAULT leaves the record and the condition of its position. -/
theorem insertFault_pos (s : State) (p : Pos) (c : Abnormal) :
    ((insertFault p c s).pos p).qual = (s.pos p).qual
      ∧ ((insertFault p c s).pos p).condition = (s.pos p).condition := by
  rw [insertFault, reclosingAfter_pos, emit_pos, changeFault_pos]
  split <;> exact ⟨rfl, rfl⟩

/-- Settles O24: the record is counted and declared as `declaring` says, and then goes by the condition that stands. -/
theorem faultDeclared : Obligations.FaultDeclared := by
  intro s p c q n rc hstate hn
  have hn' : s.settings.debounce c ≤ (afterAbnormal c q).count := by rw [afterAbnormal_count hstate c]; exact hn
  refine ⟨exec_declaration_monitored hstate hn', fun hr => ?_⟩
  intro v u k offered
  have hexec : exec (.declaration p c) s = .next (conclude s (declaredStanding p u)) :=
    exec_declaration_switched hstate hn' hr
  obtain ⟨hinsertedQual, hinsertedCondition⟩ := insertFault_pos v p c
  have hqual : (u.pos p).qual = { rc with state := .declared } :=
    hinsertedQual.trans (by rw [setQual_pos, if_pos rfl])
  have hcondition : (u.pos p).condition = k := hinsertedCondition.trans (by rw [setQual_pos, if_pos rfl])
  have hsettings : u.settings = s.settings := (acts_insertFault v p c).settings
  have hdeclared : (u.pos p).qual.state = .declared := by rw [hqual]
  have hoffered : offered ↔ rechecked (u.pos p).qual.reason = true ∧ 0 < (u.pos p).qual.trials := by
    rw [rechecked_iff, hqual]
    simp [offered, rc, q]
  have hlatch : latch p u = markRetained (setQual p { rc with state := .latched, timer := none } u) := by
    rw [latch, modifyQual, hqual]
    rfl
  refine ⟨fun hk => ?quiet, fun hk ho => ?waits, ?latches⟩
  case quiet => rw [hexec, declaredStanding_quiet (by rw [hcondition]; exact hk)]
  case waits =>
    obtain ⟨hreason, htrials⟩ := hoffered.1 ho
    rw [hexec, declaredStanding_opened (hcondition.trans hk), openReport_offered hdeclared hreason htrials, hqual,
      hsettings]
  case latches =>
    rintro (⟨hk, ho⟩ | hk)
    · rw [hexec, declaredStanding_opened (hcondition.trans hk), openReport_latched hdeclared (mt hoffered.2 ho), hlatch]
    · rw [hexec, declaredStanding_fault (by rw [hcondition]; exact hk), faultReport_latched (.inl hdeclared), hlatch]

end Sys2Proof.Machine
end

section
/-! PROOFS. A suspicion, a trial, a REPORTED record and a recheck timer that run out (R64, R69, R70, R72, R76), each as
its own command and as the class that brings it about. -/

namespace Sys2Proof.Machine

section
variable {s : State} {p : Pos}

theorem recovered_eq {k : Reason} (h : (s.pos p).qual.reason = some k) :
    recovered p s =
      emit .fault .clear (some p) (.reason k)
        (setQual p ⟨.clear, none, 0, 0, none, none, none, s.settings.trialCount⟩ s) := by
  rw [recovered, h]
  rfl

theorem recheckExpired_latches (h : (s.pos p).qual.trials = 0) : recheckExpired p s = latch p s := if_pos h

/-- FAULT alone holds the position and its switch is OPEN: a trial begins (R70, case 2). -/
theorem recheckExpired_tries (ht : (s.pos p).qual.trials ≠ 0)
    (h : (s.pos p).holds = HoldSet.faultAlone ∧ (s.pos p).condition = .opened) :
    recheckExpired p s = changeHolds .fault false none [p] (setQual p (trialRecord (s.pos p).qual) s) := by
  rw [recheckExpired, if_neg ht, if_pos h]
  rfl

theorem recheckExpired_waits (ht : (s.pos p).qual.trials ≠ 0)
    (h : ¬ ((s.pos p).holds = HoldSet.faultAlone ∧ (s.pos p).condition = .opened)) :
    recheckExpired p s = setQual p { (s.pos p).qual with timer := some s.settings.recheckInterval } s := by
  rw [recheckExpired, if_neg ht, if_neg h]
  rfl

variable (hr : s.role p ≠ .unused)
include hr

theorem exec_suspicionAbandoned (hs : (s.pos p).qual.state = .suspect)
    (hn : s.settings.holdLimit ≤ (s.pos p).qual.holdCount + 1) :
    exec (.suspicionAbandoned p) s = .next (holdSuspicion p s) := if_pos ((abandons_iff s p).2 ⟨hr, hs, hn⟩)

theorem exec_recheckTimerExpiry (hs : (s.pos p).qual.state = .waiting) {t : Nat} (ht : (s.pos p).qual.timer = some t)
    (h1 : t ≤ 1) : exec (.recheckTimerExpiry p) s = .next (conclude s (recheckExpired p s)) :=
  if_pos ((timesOut_iff s p).2 ⟨hr, hs, t, ht, h1⟩)

theorem exec_trialSuccess (hs : (s.pos p).qual.state = .recheck)
    (hn : s.settings.confirmCount ≤ confirmedOnce (s.pos p).qual) :
    exec (.trialSuccess p) s = .next (confirmTrial p s) := if_pos ((confirms_iff s _ p).2 ⟨hr, hs, hn⟩)

theorem exec_reportedRecovery (hs : (s.pos p).qual.state = .reported)
    (hn : s.settings.confirmCount ≤ confirmedOnce (s.pos p).qual) :
    exec (.reportedRecovery p) s = .next (confirmRecovery p s) := if_pos ((confirms_iff s _ p).2 ⟨hr, hs, hn⟩)

end

/-- Settles O25: each command is what the record does with the class, and that by the record's own counts. -/
theorem recordsRunOut : Obligations.RecordsRunOut := by
  refine ⟨fun s p hr => ⟨fun hs hn => ?suspicion, fun n k hc hn hk => ?recovery⟩,
    fun s p t => ?timer⟩
  case suspicion =>
    refine ⟨?_, fun cls recorded hcls => ?_⟩
    · rw [exec_suspicionAbandoned hr hs hn, holdSuspicion_ends hn]
      rfl
    · rw [exec_suspicionAbandoned hr hs hn,
        takeClass_suspect_inconclusive hr hs (kind_inconclusive (by simpa using hcls))]
  case recovery =>
    have hreached : s.settings.confirmCount ≤ confirmedOnce (s.pos p).qual := by rw [confirmedOnce_of_some hc]; exact hn
    refine ⟨fun hs => ⟨?_, ?_⟩, fun hs => ⟨?_, fun recorded => ?_⟩⟩
    · rw [exec_trialSuccess hr hs hreached, confirmTrial_reached hreached, recovered_eq hk]
    · rw [exec_trialSuccess hr hs hreached, takeClass_recheck_normal hr hs]
    · rw [exec_reportedRecovery hr hs hreached, confirmRecovery_reached hreached, recovered_eq hk]
    · rw [exec_reportedRecovery hr hs hreached, takeClass_reported_normal hr hs]
  case timer =>
    intro x q free hr hs ht h1
    have hexec := exec_recheckTimerExpiry hr hs ht h1
    refine ⟨fun hzero => ?latches, fun hne hfree => ?tries, fun hne hheld => ?waits, fun cls recorded => ?share⟩
    case latches => rw [hexec, recheckExpired_latches hzero]; rfl
    case tries => rw [hexec, recheckExpired_tries hne hfree]; rfl
    case waits =>
      rw [hexec, recheckExpired_waits hne hheld]
      exact congrArg _ (conclude_id rfl rfl)
    case share => rw [hexec, takeClass_waiting hr hs, waitingSweep_expires ht h1]

end Sys2Proof.Machine
end

section
/-! PROOFS. The residual counter and the conducting open report (R79, R80, R116). -/

namespace Sys2Proof.Machine

section
variable {s : State} {p : Pos}

/-- A target is taken in the conditions CLOSED and OPEN alone (R108). -/
theorem takeTarget_elsewhere (hc : (s.pos p).condition ≠ .closed) (ho : (s.pos p).condition ≠ .opened) :
    takeTarget p s = s := if_neg (fun h => h.elim hc ho)

theorem conditionReport_elsewhere {c : Condition} (hc : (s.pos p).condition ≠ .closed)
    (ho : (s.pos p).condition ≠ .opened) : conditionReport p c s = handOn p c s := by
  rw [conditionReport, takeTarget_elsewhere hc ho]

/-- The report on a position that stands OPEN: it takes CONDUCTING_OPEN, in which no target is taken (R116). -/
theorem conductingOpenReport_opened (h : (s.pos p).condition = .opened) :
    conductingOpenReport p s =
      handOn p .conductingOpen (emit .switch .set (some p) (.condition .conductingOpen)
        (removeOrder p (setCondition p .conductingOpen s))) := by
  rw [conductingOpenReport, if_pos h]
  refine conditionReport_elsewhere ?_ ?_ <;>
    · rw [emit_pos, removeOrder_pos, setCondition_pos, if_pos rfl]
      exact nofun

theorem conductingOpenReport_other (h : (s.pos p).condition ≠ .opened) : conductingOpenReport p s = s := if_neg h

theorem countResidual_reached (h : s.settings.residualDebounce ≤ raiseResidual (s.pos p).residual) :
    countResidual p s = conductingOpenReport p (setResidual p (raiseResidual (s.pos p).residual) s) := if_pos h

theorem countResidual_below (h : raiseResidual (s.pos p).residual < s.settings.residualDebounce) :
    countResidual p s = setResidual p (raiseResidual (s.pos p).residual) s := if_neg (not_le.2 h)

theorem takeResidual_residual {c : Condition} (hc : c = .opened) (hr : s.role p = .switched) :
    takeResidual p .residual c s = countResidual p s := if_pos ⟨hc, hr⟩

/-- Other classes than RESIDUAL and ISOLATED leave the counter, and so does RESIDUAL where it does not apply (R79). -/
theorem takeResidual_other {cls : Class} {c : Condition} (hi : cls ≠ .isolated)
    (h : ¬ (cls = .residual ∧ c = .opened ∧ s.role p = .switched)) : takeResidual p cls c s = s := by
  unfold takeResidual
  split
  · exact if_neg (fun hc => h ⟨rfl, hc⟩)
  · contradiction
  · rfl

theorem exec_residualDebounceReached (hr : s.role p = .switched)
    (h : s.settings.residualDebounce ≤ raiseResidual (s.pos p).residual) :
    exec (.residualDebounceReached p) s = .next (conclude s (countResidual p s)) :=
  if_pos (by simp [State.conducts, hr, h])

end

/-- Settles O26: the counter is raised, and at its debounce the conducting open report is made. -/
theorem residualCounted : Obligations.ResidualCounted := by
  intro s p cls recorded n raised
  have hraised : (raised.pos p).condition = (s.pos p).condition := by rw [setResidual_pos, if_pos rfl]
  have hexec (hr : s.role p = .switched) (hn : s.settings.residualDebounce ≤ n) :
      exec (.residualDebounceReached p) s = .next (conclude s (conductingOpenReport p raised)) := by
    rw [exec_residualDebounceReached hr hn, countResidual_reached hn]
    rfl
  refine ⟨fun hc => ?cleared, fun hc ho hr hn => ?raised, takeResidual_other, fun hr hn => ⟨fun ho => ?reported,
    fun ho => ?stays, fun hc hrec => ?share⟩⟩
  case cleared => subst hc; rfl
  case raised => subst hc; exact (takeResidual_residual ho hr).trans (countResidual_below hn)
  case reported => rw [hexec hr hn, conductingOpenReport_opened (hraised.trans ho)]
  case stays =>
    rw [hexec hr hn, conductingOpenReport_other (fun h => ho (hraised.symm.trans h))]
    exact congrArg _ (conclude_id rfl rfl)
  case share =>
    subst hc
    rw [exec_residualDebounceReached hr hn, takeResidual_residual hrec hr]

end Sys2Proof.Machine
end

section
/-! PROOFS. Clear Fault (R75, R77): the departure of a record to CLEAR, and its request. -/

namespace Sys2Proof.Machine

section
variable {s : State} {p : Pos}

theorem clearFault_clear (h : (s.pos p).qual.state = .clear) : clearFault p s = s := if_pos h

/-- Another record returns to CLEAR, and FAULT is removed (R77). -/
theorem clearFault_departs (h : (s.pos p).qual.state ≠ .clear) :
    clearFault p s =
      removeFault p (s.pos p).qual (setQual p (QualRecord.cleared s.settings.trialCount) s) := if_neg h

end

section
variable (s : State) (p : Pos) (old : QualRecord)

/-- A departure from SUSPECT is neither announced nor marked (R77). -/
theorem removeFault_suspect (h : old.state = .suspect) :
    removeFault p old s = reclosingAfter .fault false [p] s (changeHolder .fault false none [p] s) := by
  rw [removeFault, emitCleared_eq, if_pos (.inr h), markUnlatched, if_neg (by rw [h]; decide)]

theorem removeFault_faulted {k : Reason} (hk : old.reason = some k)
    (h : old.state = .declared ∨ old.state = .waiting ∨ old.state = .recheck ∨ old.state = .reported) :
    removeFault p old s =
      reclosingAfter .fault false [p] s
        (emit .fault .clear (some p) (.reason k) (changeHolder .fault false none [p] s)) := by
  have hfaulted : ¬ (old.state = .clear ∨ old.state = .suspect) := by rcases h with h | h | h | h <;> rw [h] <;> decide
  have hlatched : old.state ≠ .latched := by rcases h with h | h | h | h <;> rw [h] <;> decide
  rw [removeFault, emitCleared_eq, if_neg hfaulted, markUnlatched, if_neg hlatched, hk]
  rfl

/-- A departure from LATCHED is announced, and marks the retained state (R75, R77). -/
theorem removeFault_latched {k : Reason} (hk : old.reason = some k) (h : old.state = .latched) :
    removeFault p old s =
      reclosingAfter .fault false [p] s
        (markRetained (emit .fault .clear (some p) (.reason k) (changeHolder .fault false none [p] s))) := by
  rw [removeFault, emitCleared_eq, if_neg (by rw [h]; decide), markUnlatched, if_pos h, hk]
  rfl

end

theorem judgeClearFault_byte {q : Port} (hq : q ≠ .linkP) (p : Pos) (s : State) :
    judgeClearFault q [byte p.number] s = (clearFault p s, [0x00]) := by
  have hpermitted : Request.clearFault.permitted q = true := by
    cases q with
    | linkP => exact absurd rfl hq
    | linkS => rfl
    | service => rfl
  rw [judgeClearFault, checked_passes hpermitted (by simp [bodyPosition_byte]) (by cases q <;> rfl), bodyPosition_byte]
  rfl

theorem exec_clearFault {q : Port} {station : Byte} {p : Pos} {s : State} (hq : q ≠ .linkP)
    (hr : Ready q station 0x22 [byte p.number] s) :
    exec (.clearFault q station [byte p.number]) s
      = .next (conclude s (answered q station 0x22 [0x00] (clearFault p s))) := by
  have hreceive := receiveRequest_ready hr (judgeClearFault q [byte p.number])
  rw [takeRequest_change ((judgeClearFault_byte hq p (toAnswering q s)).trans
    (congrArg (·, _) (toAnswering_clearFault q s p)))] at hreceive
  exact congrArg (fun t => Host.Outcome.next (conclude s t)) hreceive

/-- Settles O28: the request is `clearFault`, by the state the record departs from. -/
theorem faultCleared : Obligations.FaultCleared := by
  intro q station p s hq hr x v u done
  have hdone {t : State} (hstate : x.state ≠ .clear)
      (h : removeFault p x v = reclosingAfter .fault false [p] v t) : done t := by
    have he := exec_clearFault hq hr
    rw [clearFault_departs hstate] at he
    exact he.trans (congrArg (fun t => Host.Outcome.next (conclude s (answered q station 0x22 [0x00] t))) h)
  refine ⟨fun h => ?clear, fun h => ?suspect, fun k hk => ⟨fun h => ?faulted, fun h => ?latched⟩⟩
  case clear =>
    rw [exec_clearFault hq hr, clearFault_clear h]
    exact congrArg _ (conclude_id rfl rfl)
  case suspect => exact hdone (by rw [h]; decide) (removeFault_suspect v p x h)
  case faulted =>
    exact hdone (by rcases h with h | h | h | h <;> rw [h] <;> decide) (removeFault_faulted v p x hk h)
  case latched => exact hdone (by rw [h]; decide) (removeFault_latched v p x hk h)

end Sys2Proof.Machine
end

section
/-! PROOFS. The walk's decisions on a LOCATE sweep's leakage mean (R78, R139, R142, R143). -/

namespace Sys2Proof.Machine

theorem le_clearValue (l trip : Nat) : l ≤ clearValue trip ↔ 4 * l ≤ 3 * trip := by
  unfold clearValue
  omega

theorem dropTest_iff (b l d : Nat) : dropTest b l d = true ↔ 1000 * l ≤ b * (1000 - d) := by
  rw [dropTest, decide_eq_true_iff, Nat.mul_comm l]

theorem candidate_eq_some_iff (w : Walk) (p : Pos) :
    w.candidate = some p ↔ w.state ≠ .idle ∧ ∃ i, w.index = i + 1 ∧ w.candidates[i]? = some p := by
  unfold Walk.candidate
  cases w.state <;> cases w.index <;> simp

/-- The candidate of a step is read from the list and the index alone. -/
theorem candidate_congr {w w' : Walk} {p : Pos} (h : w.candidate = some p) (hstate : w'.state ≠ .idle)
    (hindex : w'.index = w.index) (hlist : w'.candidates = w.candidates) : w'.candidate = some p := by
  rw [candidate_eq_some_iff] at h ⊢
  rw [hindex, hlist]
  exact ⟨hstate, h.2⟩

/-- A hold change leaves the walk record, where the walk is not in RECLOSING (R143). -/
theorem changeHolds_walk {s : State} (hw : s.walk.state ≠ .reclosing) (h : Holder) (b : Bool) (r : Option Reason)
    (ps : List Pos) : (changeHolds h b r ps s).walk = s.walk := by
  have htest (p : Pos) : reclosingTest p (changeHolder h b r ps s) = changeHolder h b r ps s :=
    if_neg (fun hc => hw (by rw [← changeHolder_walk h b r ps s]; exact hc.1))
  unfold changeHolds reclosingAfter
  split
  · rw [htest, ite_self, changeHolder_walk]
  · rw [changeHolder_walk]

theorem modify_congr {s : State} {p : Pos} {f g : PosState → PosState} (h : f (s.pos p) = g (s.pos p)) :
    s.modify p f = s.modify p g := by
  rw [State.modify, State.modify, h]

/-- The ground latch on a SWITCHED position whose LOCATE it replaces (R78). -/
theorem groundLatch_eq {s : State} {p : Pos} (hrole : s.role p = .switched) (hlocate : (s.pos p).holds.locate = true) :
    groundLatch p s =
      markRetained (emit .fault .set (some p) (.reason .ground) (takeTarget p (s.modify p (fun y =>
        { y with
          holds := { y.holds with locate := false, fault := true }, reason := some .ground, lastChange := s.uptime
          qual := ⟨.latched, none, 0, 0, some .ground, none, none, y.qual.trials⟩ })))) := by
  have hrole' : (modifyQual p groundRecord s).role p = .switched := hrole
  have hchanged : ((s.pos p).holds.put .locate false).put .fault true ≠ (s.pos p).holds := fun h => by
    have := congrArg HoldSet.locate h
    rw [hlocate] at this
    cases this
  rw [groundLatch, replaceLocate, if_pos hrole', modifyQual, setQual, modify_modify]
  refine congrArg (fun t => markRetained (emit .fault .set (some p) (.reason .ground) (takeTarget p t)))
    (modify_congr ?_)
  simp only [if_neg hchanged]
  rfl

section
variable {s : State} {p : Pos} {l : Nat} (hp : s.walk.candidate = some p)
include hp

theorem walkSweep_baseline (h : s.walk.state = .baseline) : walkSweep l s = baselineDecision p l s := by
  unfold walkSweep
  rw [hp, h]

theorem walkSweep_measuring (h : s.walk.state = .measuring) : walkSweep l s = measuringDecision p l s := by
  unfold walkSweep
  rw [hp, h]

/-- The walk in RECLOSING tests its candidate on the conditions and targets that stand (R143). -/
theorem enterReclosing_eq (h : s.walk.state = .measuring) :
    let u := changeHolds .locate false none [p] (appendEntry ⟨p, s.walk.baseline.getD 0, some l, .noDrop⟩ s)
    let v := { u with walk := { u.walk with state := .reclosing } }
    enterReclosing p l s =
      if settledAgainst (v.pos p).condition (v.pos p).holds.target = true then nextCandidate v else v := by
  intro u v
  have hu : u.walk = (appendEntry ⟨p, s.walk.baseline.getD 0, some l, .noDrop⟩ s).walk :=
    changeHolds_walk (by show s.walk.state ≠ .reclosing; rw [h]; decide) _ _ _ _
  have hindex : u.walk.index = s.walk.index := by rw [hu]; rfl
  have hlist : u.walk.candidates = s.walk.candidates := by rw [hu]; rfl
  have hv : v.walk.candidate = some p := candidate_congr hp nofun hindex hlist
  show reclosingTest p v = _
  unfold reclosingTest
  exact if_congr ⟨fun hc => hc.2.2, fun hc => ⟨rfl, hv, hc⟩⟩ rfl rfl

end

/-- Settles O51: the two decisions by their tests, and the ground latch and RECLOSING as each leaves them. -/
theorem walkDecides : Obligations.WalkDecides := by
  intro s l p hp w x logged
  refine ⟨fun hw => ⟨fun hl => ?cleared, fun hl => ⟨fun hx => ?skipped, fun hc hh => ?opening⟩⟩,
    fun b hw hb => ⟨fun _ hl hr hx => ?confirmed, fun _ hl => ?noDrop⟩⟩
  case cleared => rw [walkSweep_baseline hp hw, baselineDecision, if_pos ((le_clearValue _ _).2 hl)]
  case skipped =>
    rw [walkSweep_baseline hp hw, baselineDecision, if_neg (mt (le_clearValue _ _).1 (not_le.2 hl)), if_pos hx]
    rfl
  case opening =>
    have hfit : ¬ (x.condition ≠ .closed ∨ x.holds ≠ HoldSet.empty) := fun h => h.elim (· hc) (· hh)
    rw [walkSweep_baseline hp hw, baselineDecision, if_neg (mt (le_clearValue _ _).1 (not_le.2 hl)), if_neg hfit]
  all_goals
    have hbaseline : s.walk.baseline.getD 0 = b := congrArg (Option.getD · 0) hb
    rw [walkSweep_measuring hp hw, measuringDecision, hbaseline]
  case confirmed =>
    rw [if_pos ((dropTest_iff b l _).2 hl), confirmDrop, hbaseline]
    exact congrArg _ (groundLatch_eq (s := logged ⟨p, b, some l, .confirmed⟩) hr hx)
  case noDrop =>
    rw [if_neg (mt (dropTest_iff b l _).1 (not_le.2 hl)), enterReclosing_eq hp hw, hbaseline]
    rfl

end Sys2Proof.Machine
end

section
/-! PROOFS. Read Position (R59, R101, R164, R166): the queued order, the answer and the hold set's byte. -/

namespace Sys2Proof.Machine

/-- The queued order of a position is the OPEN one, or else the CLOSE one (Table 10-4). -/
theorem orderOf_eq (s : State) (p : Pos) :
    s.orderOf p =
      ((s.drive.openQ.find? (fun o : Order => o.position == p)).map (fun o : Order => (2, o.since))
        <|> (s.drive.closeQ.find? (fun o : Order => o.position == p)).map (fun o : Order => (1, o.since))).getD
        (0, 0) := by
  unfold State.orderOf
  cases s.drive.openQ.find? (fun o => o.position == p) with
  | some o => rfl
  | none => cases s.drive.closeQ.find? (fun o => o.position == p) <;> rfl

theorem judgeReadPosition_byte (q : Port) (p : Pos) (s : State) :
    judgeReadPosition q [byte p.number] s = (s, 0x00 :: positionBody p s) := by
  rw [judgeReadPosition, checked_passes (by cases q <;> rfl) (by simp [bodyPosition_byte]) (by cases q <;> rfl),
    bodyPosition_byte]
  rfl

theorem exec_readPosition {q : Port} {station : Byte} {p : Pos} {s : State}
    (h : Ready q station 0x02 [byte p.number] s) :
    exec (.readPosition q station [byte p.number]) s
      = .next (answered q station 0x02 (0x00 :: positionBody p s) s) := by
  have hreceive := receiveRequest_ready h (judgeReadPosition q [byte p.number])
  rw [takeRequest_quiet (judgeReadPosition_byte q p (toAnswering q s))] at hreceive
  exact congrArg _ hreceive

/-- A hold set's byte has one bit for each holder (R166). -/
theorem holdSet_bits (h : HoldSet) :
    [0, 1, 2, 3, 4, 5, 6, 7].map h.code.getLsbD
      = [h.fault, h.plant, h.site, h.lockout, h.safety, h.locate, false, false] := by
  obtain ⟨fault, plant, site, lockout, safety, locate⟩ := h
  revert fault plant site lockout safety locate
  decide

/-- Settles O6: READ_POSITION is the answer `positionBody`, whose order is the queue's. -/
theorem positionRead : Obligations.PositionRead := by
  refine ⟨fun q station p s h => ?_, rfl, rfl, rfl, rfl, rfl, rfl, holdSet_bits⟩
  intro x order
  rw [exec_readPosition h, positionBody, orderOf_eq]
  rfl

end Sys2Proof.Machine
end

section
/-! PROOFS. What ends a lockout (R95): every operation leaves a standing LOCKOUT alone, but for a Release Hold taken at
the Service Port, the start-up sequence and the role changes, which find no LOCKOUT where they act. -/

namespace Sys2Proof.Machine

/-- A LOCKOUT that stands at a position still stands. -/
structure KeepsLockout (p : Pos) (s t : State) : Prop where
  kept : (s.pos p).holds.lockout = true → (t.pos p).holds.lockout = true

theorem KeepsLockout.refl (p : Pos) (s : State) : KeepsLockout p s s := ⟨id⟩

theorem KeepsLockout.trans {p : Pos} {s t u : State} (h : KeepsLockout p s t) (k : KeepsLockout p t u) :
    KeepsLockout p s u := ⟨k.kept ∘ h.kept⟩

theorem KeepsLockout.of_positions (p : Pos) {s t : State} (h : t.positions = s.positions) : KeepsLockout p s t :=
  ⟨fun hl => by rw [pos_eq_of_positions h]; exact hl⟩

theorem KeepsHolders.lockout {s t : State} (h : KeepsHolders s t) (p : Pos) : KeepsLockout p s t := by
  refine ⟨fun hl => ?_⟩
  have heq : (t.pos p).holds.lockout = (s.pos p).holds.lockout := congrArg (fun x => x.2.2.1) (h p)
  exact heq.trans hl

/-! ### Operations that do more than insert and remove FAULT and LOCATE -/

section
variable (p : Pos) (s : State)

theorem lockout_modify {j : Pos} {f : PosState → PosState}
    (h : j = p → (s.pos p).holds.lockout = true → (f (s.pos p)).holds.lockout = true) :
    KeepsLockout p s (s.modify j f) := by
  refine ⟨fun hl => ?_⟩
  rw [modify_pos]
  split
  · next hj => subst hj; exact h rfl hl
  · exact hl

theorem put_lockout {h : Holder} {b : Bool} (hh : h ≠ .lockout ∨ b = true) {hs : HoldSet} (hl : hs.lockout = true) :
    (hs.put h b).lockout = true := by
  cases h with
  | lockout => exact hh.resolve_left (fun hne => hne rfl)
  | _ => exact hl

/-- A hold change takes LOCKOUT away only where it removes LOCKOUT itself, at a position that it names (R85). -/
theorem lockout_changeHolder {h : Holder} {b : Bool} {ps : List Pos} (hh : h ≠ .lockout ∨ b = true ∨ p ∉ ps)
    (r : Option Reason) (hps : ps.Nodup) : KeepsLockout p s (changeHolder h b r ps s) := by
  refine ⟨fun hl => ?_⟩
  rw [changeHolder_pos s h b r ps hps]
  split
  · next hp =>
    have hput : h ≠ .lockout ∨ b = true := hh.imp_right (fun hb => hb.resolve_right (fun hn => hn hp.1))
    split
    · exact put_lockout (.inr rfl) (put_lockout (.inr rfl) hl)
    · exact put_lockout hput hl
  · exact hl

theorem lockout_changeHolds {h : Holder} {b : Bool} {ps : List Pos} (hh : h ≠ .lockout ∨ b = true ∨ p ∉ ps)
    (r : Option Reason) (hps : ps.Nodup) : KeepsLockout p s (changeHolds h b r ps s) :=
  (lockout_changeHolder p s hh r hps).trans ((keeps_reclosingAfter _ h b ps s).lockout p)

theorem lockout_setSafety (a : SafetyState) (due : Option Nat) (b : Bool) : KeepsLockout p s (setSafety a due b s) :=
  .of_positions p rfl

theorem lockout_emit (k : NoticeKind) (e : Edge) (j : Option Pos) (d : Detail) : KeepsLockout p s (emit k e j d s) :=
  .of_positions p rfl

theorem lockout_advanceTo (t : Nat) : KeepsLockout p s (advanceTo t s) := .of_positions p rfl

theorem lockout_trip : KeepsLockout p s (trip s) :=
  (((lockout_setSafety p s _ _ _).trans
    (lockout_changeHolder p _ (.inl (by decide)) _ (switchedPositions_nodup s))).trans (lockout_emit p _ _ _ _ _)).trans
    ((keeps_abandonWalk _).lockout p)

theorem lockout_restore : KeepsLockout p s (restore s) :=
  (((lockout_setSafety p s _ _ _).trans
    (lockout_changeHolder p _ (.inl (by decide)) _ (List.nodup_finRange 24))).trans (lockout_emit p _ _ _ _ _)).trans
    ((keeps_reclosingAfter _ _ _ _ _).lockout p)

theorem lockout_conclude (s₀ : State) : KeepsLockout p s (conclude s₀ s) := by
  obtain ⟨c, g, h⟩ := conclude_pos s s₀ p
  exact ⟨fun hl => by rw [h]; exact hl⟩

end

section
variable (s : State)

theorem keeps_rise (n : Nat) : KeepsHolders s (rise n s) := by
  unfold rise enterAlarm
  split
  · dsimp only
    split
    · exact keeps_startWalk (emit .leakage .set none .absent (setAlarm .alarm 0 s)) .auto
    · exact .refl s
  · exact .refl s

theorem keeps_fall (n : Nat) : KeepsHolders s (fall n s) := by
  unfold fall
  split <;> exact .refl s

theorem keeps_takeLeakage (l : Nat) : KeepsHolders s (takeLeakage l s) := by
  unfold takeLeakage moveAlarm
  split
  · split
    · exact keeps_rise { s with leakage := { s.leakage with last := l } } _
    · exact keeps_rise { s with leakage := { s.leakage with last := l } } _
    · exact .refl s
    · exact .refl s
  · split
    · split
      · exact .refl s
      · exact .refl s
      · exact keeps_fall { s with leakage := { s.leakage with last := l } } _
      · exact keeps_fall { s with leakage := { s.leakage with last := l } } _
    · exact .refl s

theorem KeepsHolders.of_positions {s t : State} (h : t.positions = s.positions) : KeepsHolders s t := fun p => by
  rw [pos_eq_of_positions h]

theorem keeps_enterMeasuring : KeepsHolders s (enterMeasuring s) :=
  KeepsHolders.trans (t := { s with walk := { s.walk with state := .measuring, settleDue := none } })
    (.of_positions rfl) (keeps_requestLocate _)

theorem keeps_learn (r : SweepRecord) : KeepsHolders s (learn r s) := fun p => by rw [learn_pos]

theorem keeps_completeSweep (r : SweepRecord) (run : Running) (l : Nat) :
    KeepsHolders s (completeSweep r run l s) := by
  refine KeepsHolders.trans (t := handOver (s.assess l r) run l (recordCompleted (s.assess l r) run s)) ?_
    (keeps_startNext _)
  unfold handOver
  split
  · exact ((keeps_learn (recordCompleted (s.assess l r) run s) _).trans
      (.foldl _ (fun s p => keeps_takePosition s _ p) _ _)).trans (keeps_takeLeakage _ l)
  · exact .refl s
  · exact .refl s
  · exact .refl s
  · split
    · exact keeps_walkSweep (recordCompleted (s.assess l r) run s) l
    · exact .refl s

end

/-! ### Settings written (R8, R10, R167) -/

section
variable (p : Pos) (s : State)

theorem keeps_emitRemoved (j : Pos) (h : Holder) (old : HoldSet) : KeepsHolders s (emitRemoved j h old s) := by
  unfold emitRemoved
  split
  · exact keeps_emit s _ _ _ _
  · exact .refl s

theorem lockout_setRole (j : Pos) (r : Role) : KeepsLockout p s (setRole j r s) := .of_positions p rfl

/-- A position without LOCKOUT, written anew. -/
theorem lockout_rewritten {j : Pos} (h : (s.pos j).holds.lockout = false) {t : State}
    (ht : ∀ i, i ≠ j → t.pos i = s.pos i) : KeepsLockout p s t := by
  refine ⟨fun hl => ?_⟩
  have hj : p ≠ j := fun hp => by rw [← hp, hl] at h; cases h
  rw [ht p hj]
  exact hl

/-- A role change away from SWITCHED acts on a position without LOCKOUT (R8). -/
theorem lockout_leaveSwitching {j : Pos} (h : (s.pos j).holds.lockout = false) (r : Role) :
    KeepsLockout p s (leaveSwitching j r s) := by
  have hchanged : KeepsLockout p s ((setCondition j .absent (removeOrder j (setRole j r s))).modify j
      (unswitched s.settings.trialCount s.uptime)) :=
    lockout_rewritten p s h (fun i hi => by rw [modify_pos, if_neg hi, setCondition_pos, if_neg hi]; rfl)
  exact ((((hchanged.trans ((keeps_emitRemoved _ j _ _).lockout p)).trans
    ((keeps_emitRemoved _ j _ _).lockout p)).trans ((keeps_emitCleared _ j _).lockout p)).trans
    ((keeps_markUnlatched _ _).lockout p)).trans ((keeps_walkReport _ j _).lockout p)

/-- A role change to SWITCHED acts on a position that holds nothing (R10, R84). -/
theorem lockout_enterSwitching {j : Pos} (h : (s.pos j).holds.lockout = false) (c : Contacts) :
    KeepsLockout p s (enterSwitching c j s) := by
  rw [enterSwitching_eq]
  have hchanged : KeepsLockout p s ((setCondition j (readContact c j) (setRole j .switched s)).modify j
      (newlySwitched s.settings.trialCount s.uptime s.safety.state)) :=
    lockout_rewritten p s h (fun i hi => by rw [modify_pos, if_neg hi, setCondition_pos, if_neg hi]; rfl)
  exact ((hchanged.trans ((keeps_emitCleared _ j _).lockout p)).trans ((keeps_takeTarget _ j).lockout p)).trans
    ((keeps_handOn _ j _).lockout p)

theorem lockout_changeRole (hs : HoldsOnSwitched s) (c : Contacts) (j : Pos) (r : Role) :
    ∀ t ∈ changeRole c j r s, KeepsLockout p s t := by
  intro t ht
  by_cases hswitched : s.role j = .switched
  · cases hrefused : roleChangeRefused j s with
    | true => rw [changeRole_refused c hswitched hrefused] at ht; cases ht
    | false =>
      rw [changeRole_leave c hswitched hrefused] at ht
      cases ht
      have hfree : (s.pos j).holds.lockout = false := Bool.eq_false_iff.2 (fun hl =>
        absurd ((roleChangeRefused_iff j s).2 (.inr (.inl hl))) (Bool.eq_false_iff.1 hrefused))
      exact lockout_leaveSwitching p s hfree r
  · by_cases hr : r = .switched
    · subst hr
      rw [changeRole_enter c hswitched] at ht
      cases ht
      exact lockout_enterSwitching p s (by rw [(hs j hswitched).1]; rfl) c
    · rw [changeRole_between c hswitched hr] at ht
      cases ht
      exact (lockout_setRole p s j r).trans ((keeps_clearRecord _ j).lockout p)

theorem keeps_putSetting (x : Setting) (v : Nat) : KeepsHolders s (putSetting x v s) := .of_positions rfl

theorem keeps_applyIfIdle (l : Link) : KeepsHolders s (applyIfIdle l s) := by
  unfold applyIfIdle
  split <;> exact .refl s

theorem keeps_afterNumber (n : Number) (v : Nat) : KeepsHolders s (afterNumber n v s) := by
  cases n with
  | trialCount => intro j; simp [afterNumber, State.pos]
  | recheckInterval => intro j; simp [afterNumber, State.pos]
  | stationP => exact keeps_applyIfIdle s .p
  | stationS => exact keeps_applyIfIdle s .s
  | _ => exact .refl s

theorem keeps_setRatio (j : Pos) (n : Nat) : KeepsHolders s (setRatio j n s) := keeps_modify s j _ (fun _ => rfl)

theorem lockout_changeSetting (hs : HoldsOnSwitched s) (c : Contacts) (x : Setting) (v : Nat) :
    ∀ t ∈ changeSetting c x v s, KeepsLockout p s t := by
  intro t ht
  have hput := keeps_putSetting s x v
  cases x with
  | role j => exact lockout_changeRole p s hs c j _ t ht
  | peerGroup j => cases ht; exact (hput.trans (keeps_setRatio _ j _)).lockout p
  | number n => cases ht; exact (hput.trans (keeps_afterNumber _ n v)).lockout p
  | speed l => cases ht; exact (hput.trans (keeps_applyIfIdle _ l)).lockout p
  | _ => cases ht; exact hput.lockout p

theorem lockout_writeApplied (hs : HoldsOnSwitched s) (c : Contacts) (code index : Byte) (x : Setting) (v : Nat) :
    KeepsLockout p s (writeApplied c code index x v s).1 := by
  unfold writeApplied
  split
  · exact .refl p s
  · split
    · next t ht => exact lockout_changeSetting p s hs c x v t ht
    · exact .refl p s

end

/-! ### Requests judged (R90, R91, R95) -/

/-- A Release Hold that ends a lockout: taken at the Service Port with the Lockout Key ON, and naming the position. -/
structure Releases (key : Bool) (q : Port) (code : Byte) (body : List Byte) (p : Pos) : Prop where
  key : key = true
  port : q = .service
  code : code = 0x21
  length : body.length = 3
  named : (ofBytes body).testBit p.val = true

theorem code_of_ofCode {code : Byte} {r : Request} (h : Request.ofCode code = some r) : code = r.code := by
  have hfound := List.find?_some h
  exact (beq_iff_eq.1 hfound).symm

/-- A request that is refused changes nothing; one that is not has a body of its form, and the key where it needs it
(R162). -/
theorem checked_cases (r : Request) (q : Port) (ok : Bool) (f : State → Reply) (s : State) :
    (checked r q ok f s).1 = s
      ∨ (checked r q ok f s = f s ∧ ok = true ∧ (r.needsKey q = true → s.key = true)) := by
  unfold checked
  split
  · exact .inl rfl
  · split
    · exact .inl rfl
    · split
      · exact .inl rfl
      · next hok hkey => exact .inr ⟨rfl, by simpa using hok, fun hn => by simpa [hn] using hkey⟩

theorem lockout_checked {p : Pos} {r : Request} {q : Port} {ok : Bool} {f : State → Reply} {s : State}
    (h : ok = true → (r.needsKey q = true → s.key = true) → KeepsLockout p s (f s).1) :
    KeepsLockout p s (checked r q ok f s).1 := by
  rcases checked_cases r q ok f s with he | ⟨he, hok, hkey⟩
  · rw [he]; exact .refl p s
  · rw [he]; exact h hok hkey

section
variable (p : Pos) (s : State)

theorem mem_maskPositions (body : List Byte) : p ∈ maskPositions body ↔ (ofBytes body).testBit p.val = true := by
  simp [maskPositions, Pos.mem_all]

theorem lockout_holdRequest {b : Bool} {q : Port} {body : List Byte}
    (h : q ≠ .service ∨ b = true ∨ p ∉ maskPositions body) : KeepsLockout p s (holdRequest b q body s).1 := by
  unfold holdRequest
  split
  · exact .refl p s
  · have hholder : portHolder q ≠ .lockout ∨ b = true ∨ p ∉ maskPositions body :=
      h.imp_left (fun hq => by cases q <;> simp_all [portHolder])
    exact lockout_changeHolds p s hholder _ (maskPositions_nodup body)

/-- A Release Hold that is not as R95 asks leaves the lockout. -/
theorem lockout_judgeReleaseHold {q : Port} {body : List Byte} (h : ¬ Releases s.key q 0x21 body p) :
    KeepsLockout p s (judgeReleaseHold q body s).1 := by
  refine lockout_checked (fun hmask hkey => lockout_holdRequest p s ?_)
  by_cases hq : q = .service
  · subst hq
    refine .inr (.inr (fun hp => h ⟨hkey rfl, rfl, rfl, ?_, (mem_maskPositions p body).1 hp⟩))
    rw [isMask, Bool.and_eq_true, beq_iff_eq] at hmask
    exact hmask.1
  · exact .inl hq

theorem lockout_judgeCode (hs : HoldsOnSwitched s) (c : Contacts) {q : Port} {code : Byte} {body : List Byte}
    (h : ¬ Releases s.key q code body p) : KeepsLockout p s (judgeCode c q code body s).1 := by
  unfold judgeCode
  cases hreq : Request.ofCode code with
  | none => exact .refl p s
  | some r =>
    cases r with
    | readStatus => exact lockout_checked (fun _ _ => .refl p s)
    | readPosition => refine lockout_checked (fun _ _ => ?_); split <;> exact .refl p s
    | readMap => exact lockout_checked (fun _ _ => .refl p s)
    | requestSweep =>
      refine lockout_checked (fun _ _ => ?_)
      split
      · exact .refl p s
      · split
        · exact .refl p s
        · exact .of_positions p (startNext_positions _)
    | pinSweep =>
      refine lockout_checked (fun _ _ => ?_)
      split
      · exact .refl p s
      · split
        · exact .refl p s
        · split
          · exact .refl p s
          · exact .of_positions p rfl
    | readSweep =>
      refine lockout_checked (fun _ _ => ?_)
      split
      · split <;> exact .refl p s
      · exact .refl p s
    | unpinSweep =>
      refine lockout_checked (fun _ _ => ?_)
      split
      · exact .of_positions p rfl
      · exact .refl p s
    | placeHold => exact lockout_checked (fun _ _ => lockout_holdRequest p s (.inr (.inl rfl)))
    | releaseHold =>
      obtain rfl := code_of_ofCode hreq
      exact lockout_judgeReleaseHold p s h
    | clearFault =>
      refine lockout_checked (fun _ _ => ?_)
      split
      · exact (keeps_clearFault s _).lockout p
      · exact .refl p s
    | clearSwitch =>
      refine lockout_checked (fun _ _ => ?_)
      split
      · exact (keeps_clearSwitch s c _).lockout p
      · exact .refl p s
    | startLocate =>
      refine lockout_checked (fun _ _ => ?_)
      split
      · exact .refl p s
      · split
        · exact .refl p s
        · exact (keeps_startWalk s _).lockout p
    | readWalk => exact lockout_checked (fun _ _ => .refl p s)
    | fetchNotices => exact lockout_checked (fun _ _ => .of_positions p rfl)
    | readSetting => refine lockout_checked (fun _ _ => ?_); split <;> exact .refl p s
    | writeSetting =>
      refine lockout_checked (fun _ _ => ?_)
      split
      · exact lockout_writeApplied p s hs c _ _ _ _
      · exact .refl p s
    | saveSettings =>
      refine lockout_checked (fun _ _ => ?_)
      split
      · exact .refl p s
      · exact .of_positions p rfl
    | resetRatio =>
      refine lockout_checked (fun _ _ => ?_)
      split
      · exact (keeps_setRatio s _ _).lockout p
      · exact .refl p s

theorem lockout_modifyPort (q : Port) (f : PortState → PortState) : KeepsLockout p s (modifyPort q f s) :=
  .of_positions p rfl

theorem lockout_sendAnswer (q : Port) (station code : Byte) (reply : Reply) :
    KeepsLockout p reply.1 (sendAnswer q station code reply) := .of_positions p rfl

theorem lockout_judgeFrame (hs : HoldsOnSwitched s) (c : Contacts) {q : Port} {code : Byte} {body : List Byte}
    (h : ¬ Releases s.key q code body p) (station : Byte) :
    KeepsLockout p s (judgeFrame q station code (judgeCode c q code body) s) := by
  unfold judgeFrame
  split
  · exact ((lockout_modifyPort p s q _).trans (lockout_judgeCode p (toAnswering q s) hs c h)).trans
      (lockout_sendAnswer p q station code _)
  · exact lockout_modifyPort p s q _

theorem lockout_receiveRequest (hs : HoldsOnSwitched s) (c : Contacts) {q : Port} {code : Byte} {body : List Byte}
    (h : ¬ Releases s.key q code body p) (station : Byte) :
    KeepsLockout p s (receiveRequest q station code body (judgeCode c q code body) s) := by
  unfold receiveRequest
  split
  · exact lockout_judgeFrame p s hs c h station
  · exact .refl p s

end

/-! ### The last character of a frame (R158, R159) -/

/-- The characters of a whole frame whose Check matches are those of its Station, Code and Body. -/
theorem eq_goodFrame {chars : List Byte} (hlength : 5 ≤ chars.length) (hwhole : frameComplete chars = true)
    (hcheck : (crc16 (checkedPart chars)).toNat = checkPart chars) :
    chars = goodFrame (chars.getD 0 0) (chars.getD 2 0 :: (checkedPart chars).drop 3) := by
  obtain ⟨station, length, code, rest, rfl⟩ : ∃ station length code rest, chars = station :: length :: code :: rest := by
    match chars, hlength with
    | a :: b :: c :: l, _ => exact ⟨a, b, c, l, rfl⟩
  have hrest : 2 ≤ rest.length := by simpa using hlength
  obtain ⟨hi, lo, hlast⟩ := List.length_eq_two.1 (show (rest.drop (rest.length - 2)).length = 2 by simp; omega)
  obtain ⟨body, rfl⟩ : ∃ body, rest = body ++ [hi, lo] :=
    ⟨_, (List.take_append_drop (rest.length - 2) rest).symm.trans (by rw [hlast])⟩
  have hpart : checkedPart (station :: length :: code :: (body ++ [hi, lo])) = station :: length :: code :: body := by
    simp [checkedPart]
  have hhead : frameHead station (code :: body) = station :: length :: code :: body := by
    have hl : length.toNat = body.length + 1 := by
      have hcount := of_decide_eq_true hwhole
      simp at hcount
      omega
    rw [frameHead, List.length_cons, ← hl]
    simp [byte]
  have hbytes : bytes2 (crc16 (station :: length :: code :: body)).toNat = [hi, lo] := by
    rw [bytes2_eq_iff, ← hpart, hcheck, ← ofBytes_two]
    simp [checkPart]
  rw [hpart]
  simp [goodFrame, frameTail, hhead, hbytes]

section
variable (p : Pos) (s : State)

/-- The newest character of a frame completes a Release Hold that ends a lockout. -/
def ReleaseCompleted (q : Port) (char : Byte) : Prop :=
  ∃ (station : Byte) (body got : List Byte), Releases s.key q 0x21 body p
    ∧ (s.ports.get q).receiver = .receiving got ∧ got ++ [char] = goodFrame station (0x21 :: body)

theorem lockout_takeChars (hs : HoldsOnSwitched s) (c : Contacts) {q : Port} {chars : List Byte}
    (h : ∀ station body, Releases s.key q 0x21 body p → chars ≠ goodFrame station (0x21 :: body)) :
    KeepsLockout p s (takeChars c q chars s) := by
  unfold takeChars judgeChars
  split
  · split <;> exact lockout_modifyPort p s q _
  · split
    · next hwhole =>
      split
      · next hcheck =>
        refine lockout_judgeFrame p s hs c (fun hr => ?_) _
        have hlength : 5 ≤ chars.length := by
          have hbody := hr.length
          simp [checkedPart] at hbody
          omega
        have hframe := eq_goodFrame hlength hwhole.2 hcheck
        rw [hr.code] at hframe
        exact h _ _ { hr with code := rfl } hframe
      · exact lockout_modifyPort p s q _
    · exact lockout_modifyPort p s q _

theorem lockout_takeChar (hs : HoldsOnSwitched s) (c : Contacts) {q : Port} {char : Byte}
    (h : ¬ ReleaseCompleted p s q char) : KeepsLockout p s (takeChar c q char s) := by
  unfold takeChar
  split
  · split
    · exact lockout_modifyPort p s q _
    · exact .refl p s
  · next got hgot =>
    exact lockout_takeChars p s hs c (fun station body hr hframe => h ⟨station, body, got, hr, hgot, hframe⟩)
  · exact .refl p s

end

/-! ### Every command -/

/-- Whatever state an outcome leads to, a LOCKOUT that stands at a position stands there. -/
def LockoutKeptBy (p : Pos) (s : State) (o : Host.Outcome State Fault Refusal) : Prop :=
  ∀ t, o = .next t → KeepsLockout p s t

theorem LockoutKeptBy.next {p : Pos} {s t : State} (h : KeepsLockout p s t) : LockoutKeptBy p s (.next t) := by
  intro u hu
  cases hu
  exact h

theorem LockoutKeptBy.concluded {p : Pos} {s t : State} (h : KeepsLockout p s t) :
    LockoutKeptBy p s (.next (conclude s t)) := .next (h.trans (lockout_conclude p _ s))

theorem LockoutKeptBy.stay (p : Pos) (s : State) : LockoutKeptBy p s (.next s) := .next (.refl p s)

theorem LockoutKeptBy.ite {p : Pos} {s : State} {c : Prop} [Decidable c] {o o' : Host.Outcome State Fault Refusal}
    (h : LockoutKeptBy p s o) (h' : LockoutKeptBy p s o') : LockoutKeptBy p s (if c then o else o') := by
  split
  · exact h
  · exact h'

section
variable (p : Pos) (s : State)

theorem lockout_request (hs : HoldsOnSwitched s) {c : Instr} {f : RequestFrame} (hc : requestOf c = some f)
    (h : ¬ Releases s.key f.port f.code f.body p) : LockoutKeptBy p s (exec c s) := by
  have hreceive := lockout_receiveRequest p s hs f.contacts h f.station
  rcases exec_request hc s with he | he
  · rw [he]; exact .next hreceive
  · rw [he]; exact .concluded hreceive

/-- Every event that is neither a reset nor a character leaves a lockout (R95). -/
theorem lockout_event {c : Instr} (hc : requestOf c = none) (hreset : ∀ k l o, c ≠ .reset k l o)
    (hchar : ∀ q ch k, c ≠ .characterReceived q ch k) : LockoutKeptBy p s (exec c s) := by
  cases c with
  | frameDiscarded q => exact .ite (.next (lockout_modifyPort p s q _)) (.stay p s)
  | lengthDiscard q => exact .ite (.next (lockout_modifyPort p s q _)) (.stay p s)
  | characterGapTimeout q =>
    simp only [exec, execCharacterGapTimeout, discardFrame]
    split
    · exact .next (lockout_modifyPort p s q _)
    · exact .stay p s
    · exact .stay p s
  | characterError q =>
    simp only [exec, execCharacterError, discardFrame]
    split
    · exact .next (lockout_modifyPort p s q _)
    · exact .stay p s
    · exact .stay p s
  | answerSent q =>
    simp only [exec, execAnswerSent]
    split
    · exact .next (lockout_modifyPort p s q _)
    · exact .stay p s
    · exact .stay p s
  | reset k l o => exact absurd rfl (hreset k l o)
  | loopOpening =>
    simp only [exec, execLoopOpening]
    split
    · exact .concluded (lockout_trip p s)
    · exact .next (lockout_setSafety p s _ _ _)
    · exact .stay p s
  | loopClosing =>
    simp only [exec, execLoopClosing]
    split
    · exact .next (lockout_setSafety p s _ _ _)
    · exact .stay p s
    · exact .stay p s
  | restoreTimerExpiry =>
    simp only [exec, execRestoreTimerExpiry]
    split
    · exact .concluded ((lockout_advanceTo p s _).trans (lockout_restore p _))
    · exact .stay p s
  | keyChange => exact .next (.of_positions p rfl)
  | routineTimerExpiry => exact .ite (.next (.of_positions p rfl)) (.next (.of_positions p (startNext_positions _)))
  | sweepStart => exact .next (.of_positions p (startNext_positions s))
  | channelBurstComplete v =>
    simp only [exec, execChannelBurstComplete]
    split
    · exact .ite (.next (.of_positions p rfl)) (.stay p s)
    · exact .stay p s
  | sweepComplete v =>
    simp only [exec, execSweepComplete]
    split
    · exact .ite (.concluded ((keeps_completeSweep s _ _ _).lockout p)) (.stay p s)
    · exact .stay p s
  | declaration j k => exact .ite (.concluded ((keeps_countAbnormal s j k).lockout p)) (.stay p s)
  | suspicionAbandoned j => exact .ite (.next ((keeps_holdSuspicion s j).lockout p)) (.stay p s)
  | recheckTimerExpiry j => exact .ite (.concluded ((keeps_recheckExpired s j).lockout p)) (.stay p s)
  | trialSuccess j => exact .ite (.next ((keeps_confirmTrial s j).lockout p)) (.stay p s)
  | reportedRecovery j => exact .ite (.next ((keeps_confirmRecovery s j).lockout p)) (.stay p s)
  | residualDebounceReached j => exact .ite (.concluded ((keeps_countResidual s j).lockout p)) (.stay p s)
  | leakageAlarmEntry l => exact .ite (.next ((keeps_takeLeakage s _).lockout p)) (.stay p s)
  | leakageAlarmClear l => exact .ite (.next ((keeps_takeLeakage s _).lockout p)) (.stay p s)
  | settleTimerExpiry =>
    simp only [exec, execSettleTimerExpiry]
    split
    · exact .next ((lockout_advanceTo p s _).trans ((keeps_enterMeasuring _).lockout p))
    · exact .stay p s
  | batchStart => exact .next ((keeps_formBatch s).lockout p)
  | bypassSettleExpiry =>
    simp only [exec, execBypassSettleExpiry]
    split
    · exact .ite (.next (.of_positions p rfl)) (.stay p s)
    · exact .stay p s
  | coilPulseEnd =>
    simp only [exec, execCoilPulseEnd]
    split
    · exact .ite (.next (.of_positions p rfl)) (.ite (.next (.of_positions p rfl)) (.stay p s))
    · exact .stay p s
  | nonOverlapExpiry =>
    simp only [exec, execNonOverlapExpiry]
    split
    · exact .ite (.next (.of_positions p rfl)) (.stay p s)
    · exact .stay p s
  | batchCompletion c =>
    simp only [exec, execBatchCompletion]
    split
    · exact .ite (.concluded ((lockout_advanceTo p s _).trans ((keeps_completeBatch _ c _).lockout p))) (.stay p s)
    · exact .stay p s
  | hourlyRatioMark => exact .concluded (.of_positions p (markRetained_positions _))
  | saveWriteStart =>
    simp only [exec, execSaveWriteStart]
    split
    · exact .next (.of_positions p (startWrite_positions s))
    · exact .stay p s
  | saveComplete good =>
    simp only [exec, execSaveComplete]
    split
    · exact .next (.of_positions p (startWrite_positions _))
    · exact .stay p s
  | retainedWriteStart =>
    simp only [exec, execRetainedWriteStart]
    split
    · exact .next (.of_positions p (startWrite_positions s))
    · exact .stay p s
  | retainedWriteComplete good =>
    simp only [exec, execRetainedWriteComplete]
    split
    · exact .next (.of_positions p ((startWrite_positions _).trans (by unfold endRetained; cases good <;> simp)))
    · exact .stay p s
  | characterReceived q ch k => exact absurd rfl (hchar q ch k)
  | unknownRequestCode q station code body =>
    have hknown : (Request.ofCode code).isSome = true := by
      by_contra hk
      rw [requestOf, if_neg hk] at hc
      cases hc
    simp only [exec, execUnknownRequestCode, if_pos hknown]
    exact .stay p s
  | _ => cases hc

end

/-- The row of a Release Hold is the one row with its Code. -/
theorem eq_releaseHold {c : Instr} {f : RequestFrame} (hc : requestOf c = some f) (hcode : f.code = 0x21) :
    c = .releaseHold f.port f.station f.body := by
  cases c with
  | releaseHold => cases hc; rfl
  | unknownRequestCode q station k body =>
    obtain ⟨hk, ⟨⟩⟩ := Option.ite_none_left_eq_some.1 hc
    cases hcode
    exact absurd rfl hk
  | _ => cases hc <;> cases hcode

/-- Settles O59: a request that ends a lockout is a Release Hold as R95 asks, as a row or by the last character of its
frame; of the other commands the reset alone ends one. -/
theorem lockoutEnds : Obligations.LockoutEnds := by
  intro c s t p hs hl he ht
  by_contra hnone
  obtain ⟨hreset, hrelease⟩ := not_or.1 hnone
  have hkept : LockoutKeptBy p s (exec c s) := by
    cases hc : requestOf c with
    | some f =>
      refine lockout_request p s hs.1 hc (fun hr => hrelease ⟨hr.key, f.station, f.body, hr.length, hr.named, .inl ?_⟩)
      rw [eq_releaseHold hc hr.code, hr.port]
    | none =>
      by_cases hchar : ∃ q ch k, c = .characterReceived q ch k
      · obtain ⟨q, ch, k, rfl⟩ := hchar
        refine .concluded (lockout_takeChar p s hs.1 k ?_)
        rintro ⟨station, body, got, ⟨hkey, rfl, -, hlength, hnamed⟩, hgot, hframe⟩
        exact hrelease ⟨hkey, station, body, hlength, hnamed, .inr ⟨ch, k, got, rfl, hgot, hframe⟩⟩
      · exact lockout_event p s hc (fun k l o h => hreset ⟨k, l, o, h⟩) (fun q ch k h => hchar ⟨q, ch, k, h⟩)
  rw [(hkept t he).kept hl] at ht
  cases ht

end Sys2Proof.Machine
end

section
/-! PROOFS. Place Hold and Release Hold (R90, R91, R94): when the request is judged, what it refuses, and what it
changes. -/

namespace Sys2Proof.Machine

/-- A request permitted on its port, with a body of its form and the key where it needs it, comes to its own judgement
(R162). -/
theorem checked_keyed {r : Request} {q : Port} {ok : Bool} {s : State} (hpermitted : r.permitted q = true)
    (hok : ok = true) (hkey : r.needsKey q = true → s.key = true) (f : State → Reply) : checked r q ok f s = f s := by
  have hpass : ¬ (r.needsKey q && !s.key) = true := by simpa using hkey
  rw [checked, if_neg (by rw [hpermitted]; decide), if_neg (by rw [hok]; decide), if_neg hpass]

/-- The Lockout Key is asked for at the Service Port alone (R162, step 4). -/
theorem service_of_needsKey {r : Request} {q : Port} (h : r.needsKey q = true) : q = .service := by
  cases q with
  | service => rfl
  | _ => cases r <;> cases h

theorem isMask_named {body : List Byte} (hlength : body.length = 3) (hnamed : maskPositions body ≠ []) :
    isMask body = true := by
  simp [isMask, hlength, hnamed]

section
variable {q : Port} {station : Byte} {body : List Byte} {s : State}

/-- Both rows are their request judged on the state, as an event (R90, R91, R110). -/
theorem exec_holdRequest {b : Bool} (hready : Ready q station (if b then 0x20 else 0x21) body s)
    (hlength : body.length = 3) (hnamed : maskPositions body ≠ []) (hkey : q = .service → s.key = true) {u : State}
    {out : List Byte} (h : holdRequest b q body (toAnswering q s) = (toAnswering q u, out)) :
    exec (if b then .placeHold q station body else .releaseHold q station body) s
      = .next (conclude s (answered q station (if b then 0x20 else 0x21) out u)) := by
  have hexec : exec (if b then .placeHold q station body else .releaseHold q station body) s
      = .next (conclude s (receiveRequest q station (if b then 0x20 else 0x21) body
        (checked (if b then .placeHold else .releaseHold) q (isMask body) (holdRequest b q body)) s)) := by
    cases b <;> rfl
  have hpermitted : (if b then Request.placeHold else .releaseHold).permitted q = true := by
    cases b <;> cases q <;> rfl
  have hneeds : (if b then Request.placeHold else .releaseHold).needsKey q = true → (toAnswering q s).key = true :=
    fun hn => hkey (service_of_needsKey hn)
  have hjudge := (checked_keyed hpermitted (isMask_named hlength hnamed) hneeds (holdRequest b q body)).trans h
  rw [hexec, receiveRequest_ready hready, takeRequest_change hjudge]

/-- A position named that is not SWITCHED refuses the request (R90, step 2). -/
theorem holdRequest_refused (h : ∃ p ∈ maskPositions body, s.role p ≠ .switched) (b : Bool) (q : Port) :
    holdRequest b q body s = (s, [0x07]) := by
  rw [holdRequest, if_pos (by simpa using h)]
  rfl

/-- Where every position named is SWITCHED the holds change, and the answer names the positions changed (R90, R91). -/
theorem holdRequest_applied (h : ∀ p ∈ maskPositions body, s.role p = .switched) (b : Bool) (q : Port) :
    holdRequest b q body s =
      (changeHolds (portHolder q) b none (maskPositions body) s,
        0x00 :: maskBytes (fun p => decide (p ∈ maskPositions body ∧ (s.pos p).holds.has (portHolder q) ≠ b))) := by
  have hmask : (fun p => (maskPositions body).contains p && alters (portHolder q) b s p)
      = fun p => decide (p ∈ maskPositions body ∧ (s.pos p).holds.has (portHolder q) ≠ b) := by
    funext p
    rw [Bool.eq_iff_iff, decide_eq_true_iff, Bool.and_eq_true, List.contains_iff_mem, alters_iff]
    exact and_congr_right (fun hp => and_iff_left (fun _ => h p hp))
  rw [holdRequest, if_neg (by simpa using h), hmask]
  rfl

end

/-- Settles O30: the row is its request judged, which the roles of the positions named refuse or apply. -/
theorem holdsRequested : Obligations.HoldsRequested := by
  intro b q station body s code c h named hready hlength hnamed hkey
  have hholder : h = portHolder q := by cases q <;> rfl
  refine ⟨fun hrole => ?_, fun hrole => ?_⟩
  · exact (exec_holdRequest hready hlength hnamed hkey (holdRequest_refused (s := toAnswering q s) hrole b q)).trans
      (congrArg _ (conclude_id rfl rfl))
  · rw [hholder]
    refine exec_holdRequest hready hlength hnamed hkey ?_
    rw [← toAnswering_changeHolds]
    exact holdRequest_applied (s := toAnswering q s) hrole b q

end Sys2Proof.Machine
end

section
/-! PROOFS. The completion of a batch (R88, R104, R112, R117, R120): its due moment, the conditions verified, and its
notices. -/

namespace Sys2Proof.Machine

theorem pulsesDone_iff (b : Batch) :
    b.pulsesDone = true ↔
      b.settled = true ∧ (b.resetPulse = .none ∨ b.resetPulse = .done) ∧ (b.setPulse = .none ∨ b.setPulse = .done) := by
  simp [Batch.pulsesDone, and_assoc]

/-- The relay travel after the last pulse: the non-overlap time counts in a mixed batch alone (Table 6-3). -/
theorem completion_eq (b : Batch) :
    b.completion =
      b.bypassSettle + (if b.resetPulse ≠ .none ∧ b.setPulse ≠ .none then b.nonOverlap else 0) + 30 + b.relayTravel := by
  unfold Batch.completion Batch.lastPulseEnd Batch.setStart Config.coilPulse
  by_cases hset : b.setPulse = .none <;> by_cases hreset : b.resetPulse = .none <;> simp [hset, hreset]

/-- The condition an order's contact verifies (R112). -/
theorem result_eq (c : Contacts) (x : BatchOrder) :
    x.result c =
      if c.getLsbD x.position.val then (if x.target = .closed then Condition.closed else .jammedClosed)
      else (if x.target = .closed then .jammedOpen else .opened) := by
  have hclosed : c.closed x.position = c.getLsbD x.position.val := rfl
  unfold BatchOrder.result
  rw [hclosed]
  cases x.target <;> cases c.getLsbD x.position.val <;> rfl

theorem result_isFault (c : Contacts) (x : BatchOrder) :
    (x.result c).isFault = true ↔ x.result c = .jammedClosed ∨ x.result c = .jammedOpen := by
  unfold BatchOrder.result
  cases x.target <;> cases c.closed x.position <;> decide

theorem setVerified_pos_elsewhere (c : Contacts) {os : List BatchOrder} (s : State) {p : Pos}
    (h : p ∉ os.map BatchOrder.position) : (setVerified c os s).pos p = s.pos p := by
  induction os generalizing s with
  | nil => rfl
  | cons x os ih =>
    obtain ⟨hx, hos⟩ := List.ne_and_not_mem_of_not_mem_cons h
    exact (ih _ hos).trans (by rw [setGate_pos, if_neg hx, setCondition_pos, if_neg hx])

/-- A position of the batch: one of its orders there gives the condition, and its gate is off (R112). -/
theorem setVerified_pos (c : Contacts) {os : List BatchOrder} (s : State) {p : Pos} (h : p ∈ os.map BatchOrder.position) :
    ∃ y ∈ os, y.position = p ∧ ((setVerified c os s).pos p).condition = y.result c
      ∧ ((setVerified c os s).pos p).gate = false := by
  induction os generalizing s with
  | nil => cases h
  | cons x os ih =>
    have hstep : setVerified c (x :: os) s
        = setVerified c os (setGate x.position false (setCondition x.position (x.result c) s)) := rfl
    rw [hstep]
    by_cases hp : p ∈ os.map BatchOrder.position
    · obtain ⟨y, hy, hverified⟩ := ih _ hp
      exact ⟨y, List.mem_cons_of_mem _ hy, hverified⟩
    · obtain rfl : p = x.position := (List.mem_cons.1 h).resolve_right hp
      refine ⟨x, List.mem_cons_self, rfl, ?_⟩
      rw [setVerified_pos_elsewhere c _ hp, setGate_pos, if_pos rfl, setCondition_pos, if_pos rfl]
      exact ⟨rfl, rfl⟩

/-- Settles O47: the completion is `completeBatch` at its due moment, and each of its parts is the fold that the
statement writes out. -/
theorem batchCompletes : Obligations.BatchCompletes := by
  intro s b c hb hsettled hreset hset os result span verified notified
  have hresult : result = fun x => x.result c := funext (fun x => (result_eq c x).symm)
  have hstart : advanceTo (b.start + b.completion) s = { s with now := max s.now (b.start + span) } := by
    rw [completion_eq]; rfl
  have hverified : verified = setVerified c os { advanceTo (b.start + b.completion) s with
      drive := { s.drive with batch := none } } := by
    simp only [verified, hresult, hstart]
    rfl
  have hnotified : notified = emitBatch c os (takeTargets (os.map BatchOrder.position) verified) := by
    simp only [notified, hresult, emitBatch, emitVerified, result_isFault, takeTargets, List.foldl_map]
  refine ⟨fun x hx hunique => ?_, ?_⟩
  · obtain ⟨y, hy, hyx, hverifies⟩ := setVerified_pos c { advanceTo (b.start + b.completion) s with
      drive := { s.drive with batch := none } } (List.mem_map_of_mem hx)
    obtain rfl := hunique y hy hyx
    rw [hverified, hresult]
    exact hverifies
  · refine ⟨_, rfl, ?_⟩
    have hdone : b.pulsesDone = true := (pulsesDone_iff b).2 ⟨hsettled, hreset, hset⟩
    have hexec : exec (.batchCompletion c) s
        = .next (conclude s (completeBatch c b (advanceTo (b.start + b.completion) s))) := by
      simp only [exec, execBatchCompletion, hb, hdone, if_true]
    rw [hexec, hnotified, hverified, hresult]
    rfl

end Sys2Proof.Machine
end

section
/-! PROOFS. The Actuation Queue as targets are taken (R87, R107 to R109): where it stands as a target calls for, and what
the taking of several targets removes and appends. -/

namespace Sys2Proof.Machine

/-! ### A target that the queue already answers -/

/-- The queue has an order for a position exactly where its target differs from a CLOSED or OPEN condition (R108). -/
def QueueStands (s : State) (p : Pos) : Prop :=
  (s.pos p).condition = .closed ∨ (s.pos p).condition = .opened →
    (s.drive.hasOrder p = true ↔ (s.pos p).holds.target.condition ≠ (s.pos p).condition)

theorem QueueStands.congr {s t : State} {p : Pos} (h : QueueStands s p) (hdrive : t.drive = s.drive)
    (hcondition : (t.pos p).condition = (s.pos p).condition)
    (htarget : (t.pos p).holds.target = (s.pos p).holds.target) : QueueStands t p := by
  unfold QueueStands
  rw [hdrive, hcondition, htarget]
  exact h

theorem takeTarget_of_stands {s : State} {p : Pos} (h : QueueStands s p) : takeTarget p s = s := by
  unfold takeTarget
  split
  · next hc =>
    split
    · next heq =>
      have hnone : s.drive.hasOrder p = false := Bool.eq_false_iff.2 (fun ho => (h hc).1 ho heq)
      rw [removeOrder, Drive.remove_unordered hnone]
    · next hne => rw [if_pos ((h hc).2 hne)]
  · rfl

theorem hasOrder_remove (d : Drive) (p j : Pos) :
    (d.remove p).hasOrder j = true ↔ j ≠ p ∧ d.hasOrder j = true := by
  have hq (q : List Order) : ordered (q.filter (fun o => o.position != p)) j ↔ j ≠ p ∧ ordered q j := by
    constructor
    · rintro ⟨o, ho, rfl⟩
      obtain ⟨hmem, hne⟩ := List.mem_filter.1 ho
      exact ⟨by simpa using hne, o, hmem, rfl⟩
    · rintro ⟨hne, o, ho, rfl⟩
      exact ⟨o, List.mem_filter.2 ⟨ho, by simpa using hne⟩, rfl⟩
  simp only [Drive.hasOrder_iff, Drive.remove, hq, ← and_or_left]

theorem ordered_concat (q : List Order) (o : Order) (j : Pos) :
    ordered (q ++ [o]) j ↔ ordered q j ∨ o.position = j := by
  simp [ordered, or_and_right, exists_or]

theorem hasOrder_append (d : Drive) (t : Target) (o : Order) (j : Pos) :
    (d.append t o).hasOrder j = true ↔ d.hasOrder j = true ∨ o.position = j := by
  rw [Drive.hasOrder_iff, Drive.hasOrder_iff]
  cases t with
  | closed => rw [Drive.append, ordered_concat, or_assoc]
  | opened => rw [Drive.append, ordered_concat, or_right_comm]

theorem queueStands_takeTarget (s : State) (p : Pos) : QueueStands (takeTarget p s) p := by
  intro hc
  rw [takeTarget_pos] at hc ⊢
  unfold takeTarget
  rw [if_pos hc]
  split
  · next heq => simp [removeOrder, hasOrder_remove, heq]
  · next hne =>
    split
    · next ho => exact iff_of_true ho hne
    · exact iff_of_true ((hasOrder_append ..).2 (.inr rfl)) hne

theorem hasOrder_takeTarget_elsewhere {s : State} {p j : Pos} (hj : j ≠ p) :
    (takeTarget p s).drive.hasOrder j = s.drive.hasOrder j := by
  unfold takeTarget
  split
  · split
    · rw [Bool.eq_iff_iff, removeOrder, hasOrder_remove, and_iff_right hj]
    · split
      · rfl
      · rw [Bool.eq_iff_iff, hasOrder_append, or_iff_left (Ne.symm hj)]
  · rfl

theorem QueueStands.takeTarget {s : State} {p : Pos} (h : QueueStands s p) (a : Pos) :
    QueueStands (takeTarget a s) p := by
  by_cases hp : p = a
  · subst hp; exact queueStands_takeTarget s p
  · unfold QueueStands
    rw [takeTarget_pos, hasOrder_takeTarget_elsewhere hp]
    exact h

theorem QueueStands.takeTargets {s : State} {p : Pos} (h : QueueStands s p) (ps : List Pos) :
    QueueStands (takeTargets ps s) p := by
  induction ps generalizing s with
  | nil => exact h
  | cons a l ih => exact ih (h.takeTarget a)

/-- After the targets of several positions are taken the queue answers each of them (R109). -/
theorem queueStands_takeTargets (s : State) {ps : List Pos} {p : Pos} (hp : p ∈ ps) :
    QueueStands (takeTargets ps s) p := by
  induction ps generalizing s with
  | nil => cases hp
  | cons a l ih =>
    rcases List.mem_cons.1 hp with rfl | hl
    · exact (queueStands_takeTarget s p).takeTargets l
    · exact ih _ hl

/-! ### What the taking of targets leaves of each section -/

/-- Whether a position holds anything. -/
def PosState.held (x : PosState) : Bool := decide (x.holds ≠ HoldSet.empty)

/-- The section of the Actuation Queue whose orders have a target. -/
def Drive.queue (d : Drive) : Target → List Order
  | .opened => d.openQ
  | .closed => d.closeQ

/-- Whether a condition and a hold set, held or empty, call for an order with a target (R107, R108). -/
def callsFor (t : Target) (c : Condition) (held : Bool) : Bool :=
  match t with
  | .opened => c == .closed && held
  | .closed => c == .opened && !held

/-- Whether a position calls for an order with a target. -/
def PosState.calls (x : PosState) (t : Target) : Bool := callsFor t x.condition x.held

theorem filter_unordered {q : List Order} {p : Pos} (h : ¬ ordered q p) (b : Bool) :
    q.filter (fun o => o.position != p || b) = q :=
  List.filter_eq_self.2 (fun o ho => by
    have hne : o.position ≠ p := fun he => h ⟨o, ho, he⟩
    simp [hne])

theorem target_condition_closed (x : PosState) : x.holds.target.condition = .closed ↔ x.held = false := by
  by_cases h : x.holds = HoldSet.empty <;> simp [PosState.held, HoldSet.target, Target.condition, h]

theorem target_condition_opened (x : PosState) : x.holds.target.condition = .opened ↔ x.held = true := by
  by_cases h : x.holds = HoldSet.empty <;> simp [PosState.held, HoldSet.target, Target.condition, h]

/-- No section calls for an order exactly where the target meets a CLOSED or OPEN condition, or the condition is another
(R108). -/
theorem calls_eq_false {s : State} {p : Pos} (h : (s.pos p).condition = .closed ∨ (s.pos p).condition = .opened →
    (s.pos p).holds.target.condition = (s.pos p).condition) (t : Target) : (s.pos p).calls t = false := by
  by_contra hcalls
  cases t with
  | opened =>
    obtain ⟨hc, hheld⟩ : (s.pos p).condition = .closed ∧ (s.pos p).held = true := by
      simpa [PosState.calls, callsFor] using hcalls
    have hmet := h (.inl hc)
    rw [hc, target_condition_closed, hheld] at hmet
    cases hmet
  | closed =>
    obtain ⟨hc, hheld⟩ : (s.pos p).condition = .opened ∧ (s.pos p).held = false := by
      simpa [PosState.calls, callsFor] using hcalls
    have hmet := h (.inr hc)
    rw [hc, target_condition_opened, hheld] at hmet
    cases hmet

/-- Where the target differs from a CLOSED or OPEN condition, the section of that target calls for an order, and the other
section neither calls for one nor called for one (R108). -/
theorem calls_target {s : State} {p : Pos} (hc : (s.pos p).condition = .closed ∨ (s.pos p).condition = .opened)
    (h : (s.pos p).holds.target.condition ≠ (s.pos p).condition) :
    (s.pos p).calls (s.pos p).holds.target = true
      ∧ ∀ t, t ≠ (s.pos p).holds.target → ∀ old, callsFor t (s.pos p).condition old = false := by
  rcases hc with hc | hc
  · have hheld : (s.pos p).holds ≠ HoldSet.empty := by
      rw [hc, Ne, target_condition_closed] at h
      simpa [PosState.held] using h
    rw [target_of_held hheld]
    refine ⟨by simp [PosState.calls, callsFor, PosState.held, hc, hheld], fun t ht old => ?_⟩
    cases t with
    | opened => exact absurd rfl ht
    | closed => simp [callsFor, hc]
  · have hheld : (s.pos p).holds = HoldSet.empty := by
      rw [hc, Ne, target_condition_opened] at h
      simpa [PosState.held] using h
    have htarget : (s.pos p).holds.target = .closed := if_pos hheld
    rw [htarget]
    refine ⟨by simp [PosState.calls, callsFor, PosState.held, hc, hheld], fun t ht old => ?_⟩
    cases t with
    | opened => simp [callsFor, hc]
    | closed => exact absurd rfl ht

theorem queue_remove (d : Drive) (p : Pos) (t : Target) :
    (d.remove p).queue t = (d.queue t).filter (fun o => o.position != p) := by cases t <;> rfl

theorem queue_append (d : Drive) (t u : Target) (o : Order) :
    (d.append u o).queue t = d.queue t ++ if t = u then [o] else [] := by
  cases t <;> cases u <;> simp [Drive.append, Drive.queue]

theorem hasOrder_queue (d : Drive) (p : Pos) : d.hasOrder p = true ↔ ∃ t, ordered (d.queue t) p := by
  rw [Drive.hasOrder_iff]
  exact ⟨fun h => h.elim (fun ho => ⟨.opened, ho⟩) (fun hc => ⟨.closed, hc⟩),
    fun ⟨t, h⟩ => by cases t with | opened => exact .inl h | closed => exact .inr h⟩

/-- A target taken of a position whose orders stood as its hold set called for before: the order goes that is no longer
called for, and the one newly called for is appended (R107, R108). -/
theorem takeTarget_queue {s : State} {p : Pos} {old : Bool}
    (h : ∀ t, ordered (s.drive.queue t) p ↔ callsFor t (s.pos p).condition old = true) (t : Target) :
    (takeTarget p s).drive.queue t =
      (s.drive.queue t).filter (fun o => o.position != p || (s.pos p).calls t)
        ++ if !callsFor t (s.pos p).condition old && (s.pos p).calls t then [⟨p, s.uptime⟩] else [] := by
  have hunordered (hn : callsFor t (s.pos p).condition old = false) (b : Bool) :
      (s.drive.queue t).filter (fun o => o.position != p || b) = s.drive.queue t :=
    filter_unordered (fun ho => absurd ((h t).1 ho) (by simp [hn])) b
  unfold takeTarget
  split
  · next hc =>
    split
    · next hmet =>
      simp [calls_eq_false (fun _ => hmet) t, removeOrder, queue_remove]
    · next hne =>
      obtain ⟨hcalls, hother⟩ := calls_target hc hne
      by_cases ht : t = (s.pos p).holds.target
      · subst ht
        split
        · next ho =>
          obtain ⟨u, hu⟩ := (hasOrder_queue ..).1 ho
          have hcalled := (h u).1 hu
          by_cases hut : u = (s.pos p).holds.target
          · rw [← hut] at hcalls ⊢
            simp [hcalls, hcalled]
          · rw [hother u hut old] at hcalled; cases hcalled
        · next hn =>
          have hcalled : callsFor (s.pos p).holds.target (s.pos p).condition old = false :=
            Bool.eq_false_iff.2 (fun hcalled => hn ((hasOrder_queue ..).2 ⟨_, (h _).2 hcalled⟩))
          simp [queue_append, hcalls, hcalled]
      · have hcalls : (s.pos p).calls t = false := hother t ht _
        rw [hunordered (hother t ht old), hcalls]
        split <;> simp [queue_append, ht]
  · next hc =>
    have hnone : callsFor t (s.pos p).condition old = false := by
      rw [not_or] at hc
      cases t <;> simp [callsFor, hc]
    rw [hunordered hnone, calls_eq_false (fun hn => absurd hn hc) t]
    simp

theorem ordered_takeTarget_elsewhere {s : State} {p j : Pos} (hj : j ≠ p) {old : Bool}
    (h : ∀ t, ordered (s.drive.queue t) p ↔ callsFor t (s.pos p).condition old = true) (t : Target) :
    ordered ((takeTarget p s).drive.queue t) j ↔ ordered (s.drive.queue t) j := by
  rw [takeTarget_queue h]
  unfold ordered
  constructor
  · rintro ⟨o, ho, rfl⟩
    rcases List.mem_append.1 ho with ho | ho
    · exact ⟨o, List.mem_of_mem_filter ho, rfl⟩
    · split at ho
      · rw [List.mem_singleton] at ho; subst ho; exact absurd rfl hj
      · cases ho
  · rintro ⟨o, ho, rfl⟩
    exact ⟨o, List.mem_append_left _ (List.mem_filter.2 ⟨ho, by simp [hj]⟩), rfl⟩

/-- The targets of several positions taken in order: the orders go that are no longer called for, and those newly called
for are appended in the order of the list (R107 to R109). -/
theorem takeTargets_queue {ps : List Pos} (hps : ps.Nodup) {s : State} {old : Pos → Bool}
    (h : ∀ p ∈ ps, ∀ t, ordered (s.drive.queue t) p ↔ callsFor t (s.pos p).condition (old p) = true) (t : Target) :
    (takeTargets ps s).drive.queue t =
      (s.drive.queue t).filter (fun o => !decide (o.position ∈ ps) || (s.pos o.position).calls t)
        ++ (ps.filter (fun p => !callsFor t (s.pos p).condition (old p) && (s.pos p).calls t)).map
          (fun p => ⟨p, s.uptime⟩) := by
  induction ps generalizing s with
  | nil => simp [takeTargets]
  | cons a l ih =>
    obtain ⟨hal, hl⟩ := List.nodup_cons.1 hps
    have ha := h a List.mem_cons_self
    have hrest : ∀ p ∈ l, ∀ t, ordered ((takeTarget a s).drive.queue t) p ↔
        callsFor t ((takeTarget a s).pos p).condition (old p) = true := fun p hp t => by
      have hpa : p ≠ a := fun he => hal (he ▸ hp)
      rw [ordered_takeTarget_elsewhere hpa ha, takeTarget_pos]
      exact h p (List.mem_cons_of_mem a hp) t
    have hkeep (o : Order) : ((!decide (o.position ∈ l) || (s.pos o.position).calls t)
        && (o.position != a || (s.pos a).calls t))
        = (!decide (o.position ∈ a :: l) || (s.pos o.position).calls t) := by
      by_cases ho : o.position = a
      · simp [ho, hal]
      · simp [ho]
    have hnew : (if !callsFor t (s.pos a).condition (old a) && (s.pos a).calls t then [(⟨a, s.uptime⟩ : Order)]
        else []).filter (fun o => !decide (o.position ∈ l) || (s.pos o.position).calls t)
        = if !callsFor t (s.pos a).condition (old a) && (s.pos a).calls t then [⟨a, s.uptime⟩] else [] := by
      split <;> simp [hal]
    have hfold : takeTargets (a :: l) s = takeTargets l (takeTarget a s) := rfl
    rw [hfold, ih hl hrest, takeTarget_queue ha]
    simp only [takeTarget_pos, uptime_eq (takeTarget_now s a), List.filter_append, List.filter_filter, hkeep, hnew,
      List.append_assoc, List.filter_cons]
    split <;> rfl

end Sys2Proof.Machine
end

section
/-! PROOFS. One hold change (R84 to R87, R89, R93, R96): what it leaves alone, and what it leaves of the ports, the store
and the Actuation Queue. -/

namespace Sys2Proof.Machine

/-! ### What a hold change leaves alone -/

/-- Positions, drive, ports and store apart, nothing has changed. -/
def RestStands (s t : State) : Prop :=
  t = { s with positions := t.positions, drive := t.drive, ports := t.ports, store := t.store }

theorem RestStands.refl (s : State) : RestStands s s := rfl

theorem RestStands.trans {s t u : State} (h : RestStands s t) (k : RestStands t u) : RestStands s u := by
  unfold RestStands at h k ⊢
  rw [k, h]

theorem RestStands.foldl {α : Type} (f : State → α → State) (h : ∀ s a, RestStands s (f s a)) (l : List α)
    (s : State) : RestStands s (l.foldl f s) := by
  induction l generalizing s with
  | nil => exact .refl s
  | cons a l ih => exact (h s a).trans (ih _)

section
variable (s : State)

theorem rest_takeTarget (p : Pos) : RestStands s (takeTarget p s) := by
  unfold takeTarget
  split
  · split
    · exact rfl
    · split <;> exact rfl
  · exact rfl

theorem rest_putHolder (h : Holder) (b : Bool) (r : Option Reason) (p : Pos) : RestStands s (putHolder h b r p s) := rfl

theorem rest_emit (k : NoticeKind) (e : Edge) (p : Option Pos) (d : Detail) : RestStands s (emit k e p d s) := rfl

theorem rest_interruptTrial (p : Pos) : RestStands s (interruptTrial p s) :=
  RestStands.trans (t := putHolder .fault true (s.pos p).qual.reason p (setQual p (interrupted s.settings (s.pos p).qual) s))
    rfl (rest_takeTarget _ p)

theorem rest_emitHolds (h : Holder) (b : Bool) (ps : List Pos) : RestStands s (emitHolds h b ps s) := by
  unfold emitHolds
  split
  · exact .foldl _ (fun s p => rest_emit s _ _ _ _) ps s
  · exact .refl s

theorem rest_markLockout (h : Holder) (ps : List Pos) : RestStands s (markLockout h ps s) := by
  unfold markLockout markRetained
  split
  · split <;> exact rfl
  · exact .refl s

theorem rest_changeHolder (h : Holder) (b : Bool) (r : Option Reason) (ps : List Pos) :
    RestStands s (changeHolder h b r ps s) :=
  ((((RestStands.foldl _ (fun s p => rest_putHolder s h b r p) _ s).trans (.foldl _ (fun s p => rest_takeTarget s p) _ _)).trans
    (rest_emitHolds _ h b _)).trans (rest_markLockout _ h _)).trans (.foldl _ (fun s p => rest_interruptTrial s p) _ _)

end

/-! ### What a hold change leaves of a position (R85, R86, R89) -/

section
variable {s : State} {h : Holder} {b : Bool} {r : Option Reason} {ps : List Pos} (hps : ps.Nodup)
include hps

theorem changeHolder_pos_unchanged {p : Pos} (hp : ¬ (p ∈ ps ∧ alters h b s p = true)) :
    (changeHolder h b r ps s).pos p = s.pos p := by
  rw [changeHolder_pos s h b r ps hps, if_neg hp]

theorem changeHolder_pos_put {p : Pos} (hp : p ∈ ps ∧ alters h b s p = true) (hi : ¬ interrupts h b s p = true) :
    (changeHolder h b r ps s).pos p = heldAs h b r s.uptime (s.pos p) := by
  rw [changeHolder_pos s h b r ps hps, if_pos hp, if_neg hi]

theorem changeHolder_pos_interrupted {p : Pos} (hp : p ∈ ps ∧ alters h b s p = true)
    (hi : interrupts h b s p = true) :
    (changeHolder h b r ps s).pos p = heldInterrupted h s.settings s.uptime (s.pos p) := by
  rw [changeHolder_pos s h b r ps hps, if_pos hp, if_pos hi]

end

/-! ### Notices and the mark (R93, R96) -/

theorem foldl_stands {α β : Type} (g : State → β) {f : State → α → State} (h : ∀ s a, g (f s a) = g s) (l : List α)
    (s : State) : g (l.foldl f s) = g s := by
  induction l generalizing s with
  | nil => rfl
  | cons a l ih => rw [List.foldl_cons, ih, h]

@[simp] theorem interruptTrial_ports (s : State) (p : Pos) : (interruptTrial p s).ports = s.ports := by
  simp [interruptTrial]

@[simp] theorem interruptTrial_store (s : State) (p : Pos) : (interruptTrial p s).store = s.store := by
  simp [interruptTrial]

/-- Notices depend on the ports, the subscriptions, the last sweep number and the clock alone (R151 to R153). -/
theorem emitHolds_ports {s t : State} (hports : t.ports = s.ports) (hsettings : t.settings = s.settings)
    (hseq : t.seq = s.seq) (hnow : t.now = s.now) (h : Holder) (b : Bool) (ps : List Pos) :
    (emitHolds h b ps t).ports = (emitHolds h b ps s).ports := by
  unfold emitHolds
  split
  · induction ps generalizing s t with
    | nil => exact hports
    | cons a l ih =>
      refine ih ?_ hsettings hseq hnow
      simp only [emit, offerAll, hports, hsettings, hseq, uptime_eq hnow]
  · exact hports

theorem markLockout_store {s t : State} (hstore : t.store = s.store) (h : Holder) (ps : List Pos) :
    (markLockout h ps t).store = (markLockout h ps s).store := by
  simp only [markLockout, apply_ite State.store, markRetained_eq, hstore]

theorem markLockout_ports (h : Holder) (ps : List Pos) (s : State) : (markLockout h ps s).ports = s.ports := by
  unfold markLockout
  split <;> simp

theorem emitHolds_store (h : Holder) (b : Bool) (ps : List Pos) (s : State) :
    (emitHolds h b ps s).store = s.store := by
  unfold emitHolds
  split
  · exact foldl_stands State.store (by intros; rfl) ps s
  · rfl

theorem markLockout_drive (h : Holder) (ps : List Pos) (s : State) : (markLockout h ps s).drive = s.drive := by
  unfold markLockout
  split <;> simp

theorem emitHolds_drive (h : Holder) (b : Bool) (ps : List Pos) (s : State) :
    (emitHolds h b ps s).drive = s.drive := by
  unfold emitHolds
  split
  · exact foldl_stands State.drive (by intros; rfl) ps s
  · rfl

section
variable (s : State) (h : Holder) (b : Bool) (r : Option Reason)

/-- The holder put at several positions, one after another. -/
def putHolders (ps : List Pos) : State := ps.foldl (fun s p => putHolder h b r p s) s

/-- What neither a holder put nor a target taken touches. -/
theorem taken_stands {β : Type} (g : State → β) (hput : ∀ s p, g (putHolder h b r p s) = g s)
    (htake : ∀ s p, g (takeTarget p s) = g s) (ps : List Pos) : g (takeTargets ps (putHolders s h b r ps)) = g s :=
  (foldl_stands g htake ps _).trans (foldl_stands g hput ps s)

/-- The ports after a hold change: the HOLD notices of the positions it changes (R93). -/
theorem changeHolder_ports (ps : List Pos) :
    (changeHolder h b r ps s).ports = (emitHolds h b (ps.filter (alters h b s)) s).ports := by
  rw [changeHolder, foldl_stands State.ports interruptTrial_ports, markLockout_ports]
  exact emitHolds_ports (taken_stands s h b r State.ports (fun _ _ => rfl) (by simp) _)
    (taken_stands s h b r State.settings (fun _ _ => rfl) (by simp) _)
    (taken_stands s h b r State.seq (fun _ _ => rfl) (by simp) _)
    (taken_stands s h b r State.now (fun _ _ => rfl) (by simp) _) h b _

/-- The store after a hold change: the mark of a LOCKOUT change (R96). -/
theorem changeHolder_store (ps : List Pos) :
    (changeHolder h b r ps s).store = (markLockout h (ps.filter (alters h b s)) s).store := by
  rw [changeHolder, foldl_stands State.store interruptTrial_store]
  refine markLockout_store ?_ h _
  rw [emitHolds_store]
  exact taken_stands s h b r State.store (fun _ _ => rfl) (by simp) _

/-! ### The Actuation Queue (R87, R89, R107 to R109) -/

theorem put_true_ne_empty (hs : HoldSet) : hs.put h true ≠ HoldSet.empty := by
  cases h <;> simp [HoldSet.put, HoldSet.empty]

theorem interruptTrial_condition (s : State) (a p : Pos) :
    ((interruptTrial a s).pos p).condition = (s.pos p).condition := by
  rw [interruptTrial_pos]
  split
  · next hp => subst hp; rfl
  · rfl

theorem interruptTrial_held {s : State} {p : Pos} (hheld : (s.pos p).holds ≠ HoldSet.empty) (a : Pos) :
    ((interruptTrial a s).pos p).holds ≠ HoldSet.empty := by
  rw [interruptTrial_pos]
  split
  · exact put_true_ne_empty .fault _
  · exact hheld

/-- FAULT inserted again at a held position asks for no other target (R73, R89). -/
theorem interruptTrial_drive {s : State} {a : Pos} (hheld : (s.pos a).holds ≠ HoldSet.empty)
    (hstands : QueueStands s a) : (interruptTrial a s).drive = s.drive := by
  have htarget : (((s.pos a).holds.put .fault true)).target = (s.pos a).holds.target := by
    rw [target_of_held hheld, target_of_held (put_true_ne_empty .fault _)]
  rw [interruptTrial, takeTarget_of_stands]
  · rfl
  · refine hstands.congr rfl ?_ ?_
    · simp [putHolder_pos, setQual_pos]
    · simp [putHolder_pos, setQual_pos, htarget]

theorem foldl_interruptTrial_drive {s : State} {ps : List Pos}
    (hps : ∀ p ∈ ps, (s.pos p).holds ≠ HoldSet.empty ∧ QueueStands s p) :
    (ps.foldl (fun s p => interruptTrial p s) s).drive = s.drive := by
  induction ps generalizing s with
  | nil => rfl
  | cons a l ih =>
    obtain ⟨⟨hheld, hstands⟩, hl⟩ := List.forall_mem_cons.1 hps
    have hdrive := interruptTrial_drive hheld hstands
    rw [List.foldl_cons, ih (fun p hp => ?_), hdrive]
    obtain ⟨hheld, hstands⟩ := hl p hp
    have hstill := interruptTrial_held hheld a
    refine ⟨hstill, hstands.congr hdrive (interruptTrial_condition s a p) ?_⟩
    rw [target_of_held hheld, target_of_held hstill]

/-- The drive after a hold change is that after its targets are taken. -/
theorem changeHolder_drive {ps : List Pos} (hps : ps.Nodup) :
    (changeHolder h b r ps s).drive
      = (takeTargets (ps.filter (alters h b s)) (putHolders s h b r (ps.filter (alters h b s)))).drive := by
  rw [changeHolder, foldl_interruptTrial_drive, markLockout_drive, emitHolds_drive]
  · rfl
  · intro p hp
    obtain ⟨hp, hi⟩ := List.mem_filter.1 hp
    obtain ⟨rfl, -⟩ := (interrupts_iff s h b p).1 hi
    refine ⟨?_, (queueStands_takeTargets (putHolders s h true r (ps.filter (alters h true s))) hp).congr ?_ ?_ ?_⟩
    · simp only [markLockout_pos, emitHolds_pos, takeTargets_pos, foldl_putHolder_pos _ h true r _ (hps.filter _), hp, if_true]
      exact put_true_ne_empty h _
    · rw [markLockout_drive, emitHolds_drive]; rfl
    · rw [markLockout_pos, emitHolds_pos]; rfl
    · rw [markLockout_pos, emitHolds_pos]; rfl

/-- Whether a position holds anything after a hold change is settled by the holder put (R85, R89). -/
theorem putHolders_calls {ps : List Pos} (hps : ps.Nodup) (p : Pos) (t : Target) :
    ((putHolders s h b r (ps.filter (alters h b s))).pos p).calls t = ((changeHolder h b r ps s).pos p).calls t := by
  rw [putHolders, foldl_putHolder_pos s h b r _ (hps.filter _), changeHolder_pos s h b r ps hps]
  simp only [List.mem_filter]
  split
  · split
    · next hi =>
      obtain ⟨rfl, -⟩ := (interrupts_iff s h b p).1 hi
      simp [PosState.calls, PosState.held, heldAs, heldInterrupted, put_true_ne_empty]
    · rfl
  · rfl

theorem changeHolder_condition {ps : List Pos} (hps : ps.Nodup) (p : Pos) :
    ((changeHolder h b r ps s).pos p).condition = (s.pos p).condition := by
  rw [changeHolder_pos s h b r ps hps]
  split
  · split <;> rfl
  · rfl

/-- The Actuation Queue after a hold change, from one that the targets called for: the orders go that are no longer called
for, and those newly called for are appended in the order of the list (R87, R107 to R109). -/
theorem changeHolder_queue (hs : QueueLaws s) {ps : List Pos} (hps : ps.Nodup) (t : Target) :
    (changeHolder h b r ps s).drive.queue t =
      (s.drive.queue t).filter (fun o => ((changeHolder h b r ps s).pos o.position).calls t)
        ++ (ps.filter (fun p => !(s.pos p).calls t && ((changeHolder h b r ps s).pos p).calls t)).map
          (fun p => ⟨p, s.uptime⟩) := by
  have hqueue (p : Pos) (t : Target) : ordered (s.drive.queue t) p ↔ (s.pos p).calls t = true := by
    cases t with
    | opened => simpa [Drive.queue, PosState.calls, callsFor, PosState.held] using hs.opens p
    | closed => simpa [Drive.queue, PosState.calls, callsFor, PosState.held] using hs.closes p
  have hput : (putHolders s h b r (ps.filter (alters h b s))).drive = s.drive :=
    foldl_stands State.drive (by intros; rfl) _ s
  have huptime : (putHolders s h b r (ps.filter (alters h b s))).uptime = s.uptime :=
    uptime_eq (foldl_stands State.now (by intros; rfl) _ s)
  have hcondition (p : Pos) :
      ((putHolders s h b r (ps.filter (alters h b s))).pos p).condition = (s.pos p).condition := by
    rw [putHolders, foldl_putHolder_pos s h b r _ (hps.filter _)]
    split <;> rfl
  rw [changeHolder_drive s h b r hps, takeTargets_queue (hps.filter _) (old := fun p => (s.pos p).held)
    (fun p _ t => by rw [hput, hcondition]; exact hqueue p t)]
  simp only [hput, huptime, hcondition, putHolders_calls s h b r hps, List.filter_filter]
  congr 1
  · refine List.filter_congr (fun o ho => ?_)
    by_cases hp : o.position ∈ ps ∧ alters h b s o.position = true
    · simp [hp]
    · have hcalled : (s.pos o.position).calls t = true := (hqueue _ t).1 ⟨o, ho, rfl⟩
      rw [changeHolder_pos_unchanged hps hp, hcalled, Bool.or_true]
  · refine congrArg _ (List.filter_congr (fun p hp => ?_))
    cases ha : alters h b s p with
    | true => rw [Bool.and_true]; rfl
    | false => rw [changeHolder_pos_unchanged hps (by simp [ha])]; simp

end

/-! ### The statement's forms -/

theorem reasonAfter_eq (h : Holder) (b : Bool) (r old : Option Reason) :
    reasonAfter h b r old = if h = .fault then (if b = true then r else none) else old := by
  cases h <;> cases b <;> rfl

theorem noticed_iff (h : Holder) : h.noticed = true ↔ h = .plant ∨ h = .site ∨ h = .lockout := by
  cases h <;> decide

/-- A sublist with the members that a test picks is what the test leaves of the list. -/
theorem eq_filter_of_sublist {l ps : List Pos} (hps : ps.Nodup) (hl : l.Sublist ps) {f : Pos → Bool}
    (hf : ∀ p, p ∈ l ↔ p ∈ ps ∧ f p = true) : l = ps.filter f := by
  have hsub : l.Sublist (ps.filter f) := by
    have hfilter := hl.filter f
    rwa [List.filter_eq_self.2 (fun p hp => ((hf p).1 hp).2)] at hfilter
  refine hsub.eq_of_length ?_
  exact ((List.perm_ext_iff_of_nodup (hps.sublist hl) (hps.filter f)).2 (fun p => by rw [hf, List.mem_filter])).length_eq

section
variable {s : State} {h : Holder} {b : Bool} {r : Option Reason} {ps : List Pos} (hps : ps.Nodup)
include hps

/-- The OPEN orders after a hold change (R107, R108). -/
theorem changeHolder_openQ (hs : QueueLaws s) :
    (changeHolder h b r ps s).drive.openQ =
      s.drive.openQ.filter (fun o => decide (((changeHolder h b r ps s).pos o.position).holds ≠ HoldSet.empty))
        ++ (ps.filter (fun p => decide ((s.pos p).condition = .closed ∧ (s.pos p).holds = HoldSet.empty
          ∧ ((changeHolder h b r ps s).pos p).holds ≠ HoldSet.empty))).map (fun p => ⟨p, s.uptime⟩) := by
  refine (changeHolder_queue s h b r hs hps .opened).trans (congrArg₂ (· ++ ·) ?_ (congrArg _ ?_))
  · refine List.filter_congr (fun o ho => ?_)
    have hclosed := ((hs.opens o.position).1 ⟨o, ho, rfl⟩).1
    simp [PosState.calls, callsFor, PosState.held, changeHolder_condition s h b r hps, hclosed]
  · refine List.filter_congr (fun p _ => ?_)
    by_cases hc : (s.pos p).condition = .closed <;>
      simp [PosState.calls, callsFor, PosState.held, changeHolder_condition s h b r hps, hc]

/-- The CLOSE orders after a hold change (R107, R108). -/
theorem changeHolder_closeQ (hs : QueueLaws s) :
    (changeHolder h b r ps s).drive.closeQ =
      s.drive.closeQ.filter (fun o => decide (((changeHolder h b r ps s).pos o.position).holds = HoldSet.empty))
        ++ (ps.filter (fun p => decide ((s.pos p).condition = .opened ∧ (s.pos p).holds ≠ HoldSet.empty
          ∧ ((changeHolder h b r ps s).pos p).holds = HoldSet.empty))).map (fun p => ⟨p, s.uptime⟩) := by
  refine (changeHolder_queue s h b r hs hps .closed).trans (congrArg₂ (· ++ ·) ?_ (congrArg _ ?_))
  · refine List.filter_congr (fun o ho => ?_)
    have hopened := ((hs.closes o.position).1 ⟨o, ho, rfl⟩).1
    simp [PosState.calls, callsFor, PosState.held, changeHolder_condition s h b r hps, hopened]
  · refine List.filter_congr (fun p _ => ?_)
    by_cases hc : (s.pos p).condition = .opened <;>
      simp [PosState.calls, callsFor, PosState.held, changeHolder_condition s h b r hps, hc]

end

theorem takeTarget_batch (s : State) (p : Pos) : (takeTarget p s).drive.batch = s.drive.batch := by
  unfold takeTarget
  split
  · split
    · rfl
    · split
      · rfl
      · cases (s.pos p).holds.target <;> rfl
  · rfl

theorem changeHolder_batch (s : State) (h : Holder) (b : Bool) (r : Option Reason) {ps : List Pos} (hps : ps.Nodup) :
    (changeHolder h b r ps s).drive.batch = s.drive.batch := by
  rw [changeHolder_drive s h b r hps]
  exact taken_stands s h b r (fun s => s.drive.batch) (fun _ _ => rfl) takeTarget_batch _

/-- Settles O29: `changeHolder` position by position, what it leaves alone, its notices and mark, and its orders, which
come and go as each position's condition and hold set call for them. -/
theorem holdsChanged : Obligations.HoldsChanged := by
  intro s h b r ps hps t changed ends
  have hchanged (p : Pos) : changed p ↔ p ∈ ps ∧ alters h b s p = true :=
    and_congr_right (fun _ => (alters_iff s h b p).symm)
  have hends (p : Pos) : ends p ↔ changed p ∧ interrupts h b s p = true :=
    and_congr_right (fun _ => (interrupts_iff s h b p).symm)
  refine ⟨fun p => ⟨fun hn => ?_, fun hc hn => ?_, fun he => ?_⟩, rest_changeHolder s h b r ps,
    fun notified hsub hmem => ?_, changeHolder_batch s h b r hps, fun hs => ?_⟩
  · exact changeHolder_pos_unchanged hps (mt (hchanged p).2 hn)
  · have hput : t.pos p = heldAs h b r s.uptime (s.pos p) :=
      changeHolder_pos_put hps ((hchanged p).1 hc) (fun hi => hn ((hends p).2 ⟨hc, hi⟩))
    rw [hput, heldAs, reasonAfter_eq]
  · obtain ⟨hc, hi⟩ := (hends p).1 he
    exact changeHolder_pos_interrupted hps ((hchanged p).1 hc) hi
  · have hnotified : notified = ps.filter (alters h b s) :=
      eq_filter_of_sublist hps hsub (fun p => (hmem p).trans (hchanged p))
    rw [hnotified]
    simp only [← noticed_iff]
    exact ⟨changeHolder_ports s h b r ps, changeHolder_store s h b r ps⟩
  · have hlaws := ((driveLaws_iff s).1 hs).1
    exact ⟨changeHolder_openQ hps hlaws, changeHolder_closeQ hps hlaws⟩

end Sys2Proof.Machine
end

section
/-! PROOFS. The laws of the Switch Drive (R103, R105, R107, R108, R110) in the middle of an event: what leaves alone all
that they speak of, and what the taking of targets makes good. -/

namespace Sys2Proof.Machine

/-! ### What the laws speak of -/

/-- What the laws of the Switch Drive speak of is as it was: the drive, the roles, and of each position its condition, its
gate and whether it is held. -/
structure DriveStands (s t : State) : Prop where
  drive : t.drive = s.drive
  role : ∀ p, t.role p = s.role p
  condition : ∀ p, (t.pos p).condition = (s.pos p).condition
  gate : ∀ p, (t.pos p).gate = (s.pos p).gate
  held : ∀ p, (t.pos p).held = (s.pos p).held

theorem DriveStands.refl (s : State) : DriveStands s s := ⟨rfl, fun _ => rfl, fun _ => rfl, fun _ => rfl, fun _ => rfl⟩

theorem DriveStands.trans {s t u : State} (h : DriveStands s t) (k : DriveStands t u) : DriveStands s u where
  drive := k.drive.trans h.drive
  role p := (k.role p).trans (h.role p)
  condition p := (k.condition p).trans (h.condition p)
  gate p := (k.gate p).trans (h.gate p)
  held p := (k.held p).trans (h.held p)

/-- Drive, settings and positions stand as they were. -/
theorem DriveStands.of_pos {s t : State} (hdrive : t.drive = s.drive) (hsettings : t.settings = s.settings)
    (hpos : ∀ p, t.pos p = s.pos p) : DriveStands s t where
  drive := hdrive
  role := role_eq_of_settings hsettings
  condition p := by rw [hpos]
  gate p := by rw [hpos]
  held p := by rw [hpos]

theorem DriveStands.of_eq {s t : State} (hdrive : t.drive = s.drive) (hsettings : t.settings = s.settings)
    (hpositions : t.positions = s.positions) : DriveStands s t :=
  .of_pos hdrive hsettings (pos_eq_of_positions hpositions)

/-- One position changed elsewhere than in its condition, its gate and its hold set. -/
theorem stands_modify (s : State) (p : Pos) {f : PosState → PosState} (hcondition : ∀ x, (f x).condition = x.condition)
    (hgate : ∀ x, (f x).gate = x.gate) (hholds : ∀ x, (f x).holds = x.holds) : DriveStands s (s.modify p f) := by
  have hpos (j : Pos) : (s.modify p f).pos j = f (s.pos j) ∨ (s.modify p f).pos j = s.pos j := by
    rw [modify_pos]
    split
    · next hj => exact .inl (by rw [hj])
    · exact .inr rfl
  refine ⟨rfl, fun _ => rfl, fun j => ?_, fun j => ?_, fun j => ?_⟩
  · rcases hpos j with h | h <;> rw [h]
    exact hcondition _
  · rcases hpos j with h | h <;> rw [h]
    exact hgate _
  · rcases hpos j with h | h <;> simp only [h, PosState.held, hholds]

/-! ### The laws, for any hold sets that the orders may answer -/

/-- The laws of the Switch Drive where the orders stand as given hold sets call for: those of the positions, or, in the
middle of a hold change, those of before it (R107, R108). -/
structure QueueLawsFor (held : Pos → Bool) (s : State) : Prop where
  orders : ∀ p t, ordered (s.drive.queue t) p ↔ callsFor t (s.pos p).condition (held p) = true
  nodup : ∀ t, ((s.drive.queue t).map Order.position).Nodup
  moving : ∀ p, (s.pos p).condition = .moving ↔ p ∈ s.drive.moving
  gates : ∀ p, (s.pos p).gate = true ↔ p ∈ s.drive.moving
  absent : ∀ p, (s.pos p).condition = .absent ↔ s.role p ≠ .switched
  batch : ∀ b, s.drive.batch = some b → b.orders ≠ [] ∧ (b.orders.map BatchOrder.position).Nodup
    ∧ ∀ x ∈ b.orders, ∀ y ∈ b.orders, switchGroup x.position = switchGroup y.position

theorem calls_opened (x : PosState) : x.calls .opened = true ↔ x.condition = .closed ∧ x.holds ≠ HoldSet.empty := by
  simp [PosState.calls, callsFor, PosState.held]

theorem calls_closed (x : PosState) : x.calls .closed = true ↔ x.condition = .opened ∧ x.holds = HoldSet.empty := by
  simp [PosState.calls, callsFor, PosState.held]

theorem queueLaws_iff (s : State) : QueueLaws s ↔ QueueLawsFor (fun p => (s.pos p).held) s := by
  constructor
  · intro h
    refine ⟨fun p t => ?_, fun t => ?_, h.moving, h.gates, h.absent, h.batch⟩
    · cases t with
      | opened => exact (h.opens p).trans (calls_opened _).symm
      | closed => exact (h.closes p).trans (calls_closed _).symm
    · cases t with
      | opened => exact h.opens_nodup
      | closed => exact h.closes_nodup
  · intro h
    exact ⟨fun p => (h.orders p .opened).trans (calls_opened _), fun p => (h.orders p .closed).trans (calls_closed _),
      h.nodup .opened, h.nodup .closed, h.moving, h.gates, h.absent, h.batch⟩

/-- Other hold sets that call for the same orders. -/
theorem QueueLawsFor.congr {held held' : Pos → Bool} {s : State} (h : QueueLawsFor held s)
    (hcalls : ∀ p t, callsFor t (s.pos p).condition (held' p) = callsFor t (s.pos p).condition (held p)) :
    QueueLawsFor held' s :=
  { h with orders := fun p t => by rw [hcalls]; exact h.orders p t }

/-- Drive, roles, conditions and gates stand; the orders answer the hold sets they answered. -/
theorem QueueLawsFor.stands {held : Pos → Bool} {s t : State} (h : QueueLawsFor held s) (hdrive : t.drive = s.drive)
    (hrole : ∀ p, t.role p = s.role p) (hcondition : ∀ p, (t.pos p).condition = (s.pos p).condition)
    (hgate : ∀ p, (t.pos p).gate = (s.pos p).gate) : QueueLawsFor held t where
  orders p u := by rw [hdrive, hcondition]; exact h.orders p u
  nodup u := by rw [hdrive]; exact h.nodup u
  moving p := by rw [hdrive, hcondition]; exact h.moving p
  gates p := by rw [hdrive, hgate]; exact h.gates p
  absent p := by rw [hcondition, hrole]; exact h.absent p
  batch b hb := h.batch b (by rw [← hdrive]; exact hb)

theorem takeTargets_batch (ps : List Pos) (s : State) : (takeTargets ps s).drive.batch = s.drive.batch :=
  foldl_stands (fun s => s.drive.batch) (fun s p => takeTarget_batch s p) ps s

theorem Drive.moving_congr {d d' : Drive} (h : d'.batch = d.batch) : d'.moving = d.moving := by
  unfold Drive.moving
  rw [h]

/-- The orders after the targets of several positions are taken: at each of them those that its hold set calls for now
(R108, R109). -/
theorem ordered_takeTargets {held : Pos → Bool} {s : State} (h : QueueLawsFor held s) {ps : List Pos} (hps : ps.Nodup)
    (p : Pos) (t : Target) :
    ordered ((takeTargets ps s).drive.queue t) p ↔
      callsFor t (s.pos p).condition (if p ∈ ps then (s.pos p).held else held p) = true := by
  rw [takeTargets_queue hps (fun p _ t => h.orders p t) t]
  have hkept : ordered ((s.drive.queue t).filter
        (fun o => !decide (o.position ∈ ps) || (s.pos o.position).calls t)) p
      ↔ callsFor t (s.pos p).condition (held p) = true ∧ (p ∈ ps → (s.pos p).calls t = true) := by
    rw [← h.orders]
    constructor
    · rintro ⟨o, ho, rfl⟩
      obtain ⟨hq, hkeep⟩ := List.mem_filter.1 ho
      exact ⟨⟨o, hq, rfl⟩, fun hp => by simpa [hp] using hkeep⟩
    · rintro ⟨⟨o, hq, rfl⟩, hkeep⟩
      refine ⟨o, List.mem_filter.2 ⟨hq, ?_⟩, rfl⟩
      by_cases hp : o.position ∈ ps
      · simp [hkeep hp]
      · simp [hp]
  have hnew : ordered ((ps.filter (fun p => !callsFor t (s.pos p).condition (held p) && (s.pos p).calls t)).map
        (fun p => ⟨p, s.uptime⟩)) p
      ↔ p ∈ ps ∧ callsFor t (s.pos p).condition (held p) = false ∧ (s.pos p).calls t = true := by
    simp [ordered]
  have happend (q q' : List Order) : ordered (q ++ q') p ↔ ordered q p ∨ ordered q' p := by
    simp [ordered, or_and_right, exists_or]
  rw [happend, hkept, hnew]
  by_cases hp : p ∈ ps
  · rw [if_pos hp]
    show _ ↔ (s.pos p).calls t = true
    cases callsFor t (s.pos p).condition (held p) <;> simp [hp]
  · simp [hp]

/-- No position has two orders of one target after targets are taken (R108). -/
theorem nodup_takeTargets {held : Pos → Bool} {s : State} (h : QueueLawsFor held s) {ps : List Pos} (hps : ps.Nodup)
    (t : Target) : (((takeTargets ps s).drive.queue t).map Order.position).Nodup := by
  rw [takeTargets_queue hps (fun p _ t => h.orders p t) t, List.map_append, List.map_map]
  have hnew : ((ps.filter (fun p => !callsFor t (s.pos p).condition (held p) && (s.pos p).calls t)).map
      (Order.position ∘ fun p => ⟨p, s.uptime⟩))
      = ps.filter (fun p => !callsFor t (s.pos p).condition (held p) && (s.pos p).calls t) := List.map_id _
  rw [hnew]
  refine List.nodup_append.2 ⟨(h.nodup t).sublist (List.filter_sublist.map _), hps.filter _, fun p hp p' hp' heq => ?_⟩
  subst heq
  obtain ⟨o, ho, rfl⟩ := List.mem_map.1 hp
  have hcalled := (h.orders o.position t).1 ⟨o, List.mem_of_mem_filter ho, rfl⟩
  simp [hcalled] at hp'

/-- After the targets are taken of every position whose hold set may call for other orders, the laws hold (R87, R108,
R109). -/
theorem QueueLawsFor.takeTargets {held : Pos → Bool} {s : State} (h : QueueLawsFor held s) {ps : List Pos}
    (hps : ps.Nodup) (hheld : ∀ p, p ∉ ps → (s.pos p).held = held p) : QueueLaws (takeTargets ps s) := by
  have hmoving := Drive.moving_congr (takeTargets_batch ps s)
  refine (queueLaws_iff _).2 ⟨fun p t => ?_, nodup_takeTargets h hps, fun p => ?_, fun p => ?_, fun p => ?_, fun b hb => ?_⟩
  · rw [ordered_takeTargets h hps, takeTargets_pos]
    split
    · rfl
    · next hp => rw [hheld p hp]
  · rw [takeTargets_pos, hmoving]; exact h.moving p
  · rw [takeTargets_pos, hmoving]; exact h.gates p
  · rw [takeTargets_pos, role_eq_of_settings (acts_takeTargets s ps).settings]; exact h.absent p
  · exact h.batch b (by rw [← takeTargets_batch ps s]; exact hb)

theorem takeTargets_singleton (p : Pos) (s : State) : takeTargets [p] s = takeTarget p s := rfl

/-- Hold sets changed at several positions, and their targets taken (R87, R108, R109). -/
theorem QueueLaws.retargeted {s t : State} (hs : QueueLaws s) {ps : List Pos} (hps : ps.Nodup)
    (hdrive : t.drive = s.drive) (hrole : ∀ p, t.role p = s.role p)
    (hcondition : ∀ p, (t.pos p).condition = (s.pos p).condition) (hgate : ∀ p, (t.pos p).gate = (s.pos p).gate)
    (hheld : ∀ p, p ∉ ps → (t.pos p).held = (s.pos p).held) : QueueLaws (takeTargets ps t) :=
  (((queueLaws_iff s).1 hs).stands hdrive hrole hcondition hgate).takeTargets hps hheld

theorem DriveStands.queueLaws {s t : State} (h : DriveStands s t) (hs : QueueLaws s) : QueueLaws t :=
  hs.retargeted List.nodup_nil h.drive h.role h.condition h.gate (fun p _ => h.held p)

/-! ### Conditions written -/

/-- A hold set, held or empty, whose target a condition meets: under it the condition calls for no order (R108). -/
def metBy (c : Condition) : Bool := c == .opened

theorem callsFor_metBy (t : Target) (c : Condition) : callsFor t c (metBy c) = false := by
  cases t <;> cases c <;> rfl

/-- Positions written anew, with no order left in the queue and out of the batch: conditions other than MOVING, gates off,
and ABSENT exactly where the role is not SWITCHED (R103, R105, Table 6-1). -/
structure Rewritten (ps : List Pos) (s t : State) : Prop where
  orders : ∀ u p, ordered (t.drive.queue u) p ↔ p ∉ ps ∧ ordered (s.drive.queue u) p
  sublist : ∀ u, (t.drive.queue u).Sublist (s.drive.queue u)
  moving : ∀ p, p ∈ t.drive.moving ↔ p ∉ ps ∧ p ∈ s.drive.moving
  batch : ∀ b, t.drive.batch = some b → s.drive.batch = some b
  role : ∀ p, p ∉ ps → t.role p = s.role p
  condition : ∀ p, p ∉ ps → (t.pos p).condition = (s.pos p).condition
  gate : ∀ p, p ∉ ps → (t.pos p).gate = (s.pos p).gate
  held : ∀ p, p ∉ ps → (t.pos p).held = (s.pos p).held
  still : ∀ p ∈ ps, (t.pos p).condition ≠ .moving
  off : ∀ p ∈ ps, (t.pos p).gate = false
  absent : ∀ p ∈ ps, ((t.pos p).condition = .absent ↔ t.role p ≠ .switched)

theorem Rewritten.queueLawsFor {ps : List Pos} {s t : State} (h : Rewritten ps s t) (hs : QueueLaws s) :
    QueueLawsFor (fun p => if p ∈ ps then metBy (t.pos p).condition else (s.pos p).held) t := by
  rw [queueLaws_iff] at hs
  refine ⟨fun p u => ?_, fun u => (hs.nodup u).sublist ((h.sublist u).map _), fun p => ?_, fun p => ?_, fun p => ?_,
    fun b hb => hs.batch b (h.batch b hb)⟩
  · rw [h.orders]
    by_cases hp : p ∈ ps
    · simp [hp, callsFor_metBy]
    · simpa [hp, h.condition p hp] using hs.orders p u
  · rw [h.moving]
    by_cases hp : p ∈ ps
    · simp [hp, h.still p hp]
    · simpa [hp, h.condition p hp] using hs.moving p
  · rw [h.moving]
    by_cases hp : p ∈ ps
    · simp [hp, h.off p hp]
    · simpa [hp, h.gate p hp] using hs.gates p
  · by_cases hp : p ∈ ps
    · exact h.absent p hp
    · rw [h.condition p hp, h.role p hp]; exact hs.absent p

/-- Positions written anew have their targets taken, and the laws hold (R87, R108, R109). -/
theorem Rewritten.taken {ps : List Pos} {s t u : State} (h : Rewritten ps s t) (hu : DriveStands t u) (hps : ps.Nodup)
    (hs : QueueLaws s) : QueueLaws (takeTargets ps u) :=
  ((h.queueLawsFor hs).stands hu.drive hu.role hu.condition hu.gate).takeTargets hps
    (fun p hp => by rw [if_neg hp, hu.held, h.held p hp])

/-- A position whose condition is neither CLOSED nor OPEN has no target to take (R108). -/
theorem takeTarget_unready {s : State} {p : Pos} (h : ¬ ((s.pos p).condition = .closed ∨ (s.pos p).condition = .opened)) :
    takeTarget p s = s := if_neg h

/-- A position whose condition is neither CLOSED nor OPEN has no order (R108). -/
theorem QueueLaws.unordered {s : State} (hs : QueueLaws s) {p : Pos}
    (h : ¬ ((s.pos p).condition = .closed ∨ (s.pos p).condition = .opened)) (t : Target) :
    ¬ ordered (s.drive.queue t) p := by
  rw [not_or] at h
  cases t with
  | opened => exact fun ho => h.1 ((hs.opens p).1 ho).1
  | closed => exact fun ho => h.2 ((hs.closes p).1 ho).1

/-- A gate is off where the condition is not MOVING (R103, R105). -/
theorem QueueLaws.gate_off {s : State} (hs : QueueLaws s) {p : Pos} (h : (s.pos p).condition ≠ .moving) :
    (s.pos p).gate = false :=
  Bool.eq_false_iff.2 (fun hg => h ((hs.moving p).2 ((hs.gates p).1 hg)))

end Sys2Proof.Machine
end

section
/-! PROOFS. The laws of the Switch Drive across every operation: `DriveStands` for the operations that touch nothing the
laws speak of, `KeepsQueue` for those that change hold sets, conditions and orders, one lemma for each. -/

namespace Sys2Proof.Machine

/-- An operation in the middle of an event keeps the laws, with orders that may wait, and the batch in flight. -/
structure KeepsQueue (s t : State) : Prop where
  laws : QueueLaws s → QueueLaws t
  batch : t.drive.batch = s.drive.batch

theorem KeepsQueue.refl (s : State) : KeepsQueue s s := ⟨id, rfl⟩

theorem KeepsQueue.trans {s t u : State} (h : KeepsQueue s t) (k : KeepsQueue t u) : KeepsQueue s u :=
  ⟨k.laws ∘ h.laws, k.batch.trans h.batch⟩

theorem KeepsQueue.foldl {α : Type} (f : State → α → State) (h : ∀ s a, KeepsQueue s (f s a)) (l : List α) (s : State) :
    KeepsQueue s (l.foldl f s) := by
  induction l generalizing s with
  | nil => exact .refl s
  | cons a l ih => exact (h s a).trans (ih _)

theorem DriveStands.queue {s t : State} (h : DriveStands s t) : KeepsQueue s t :=
  ⟨h.queueLaws, by rw [h.drive]⟩

variable (s : State)

/-! ### What touches nothing the laws speak of -/

theorem stands_emit (k : NoticeKind) (e : Edge) (p : Option Pos) (d : Detail) : DriveStands s (emit k e p d s) :=
  .of_eq rfl rfl rfl

theorem stands_setQual (p : Pos) (q : QualRecord) : DriveStands s (setQual p q s) :=
  stands_modify s p (fun _ => rfl) (fun _ => rfl) (fun _ => rfl)

theorem stands_modifyQual (p : Pos) (f : QualRecord → QualRecord) : DriveStands s (modifyQual p f s) :=
  stands_setQual s p _

theorem stands_setResidual (p : Pos) (n : Nat) : DriveStands s (setResidual p n s) :=
  stands_modify s p (fun _ => rfl) (fun _ => rfl) (fun _ => rfl)

theorem stands_setRatio (p : Pos) (n : Nat) : DriveStands s (setRatio p n s) :=
  stands_modify s p (fun _ => rfl) (fun _ => rfl) (fun _ => rfl)

theorem stands_markRetained : DriveStands s (markRetained s) := .of_eq (by simp) (by simp) (by simp)

theorem stands_modifyPort (q : Port) (f : PortState → PortState) : DriveStands s (modifyPort q f s) := .of_eq rfl rfl rfl

theorem stands_setSeq (x : Sequencer) : DriveStands s { s with seq := x } := .of_eq rfl rfl rfl

theorem stands_setWalk (w : Walk) : DriveStands s { s with walk := w } := .of_eq rfl rfl rfl

theorem stands_advanceTo (t : Nat) : DriveStands s (advanceTo t s) := .of_eq rfl rfl rfl

theorem stands_setSafety (a : SafetyState) (due : Option Nat) (b : Bool) : DriveStands s (setSafety a due b s) :=
  .of_eq rfl rfl rfl

theorem stands_startNext : DriveStands s (startNext s) := .of_eq (by simp) (by simp) (by simp)

theorem stands_requestLocate : DriveStands s (requestLocate s) := by
  unfold requestLocate
  split
  · exact .refl s
  · exact (stands_setSeq s _).trans (stands_startNext _)

theorem stands_endWalk (o : WalkOutcome) (f : Option Pos) : DriveStands s (endWalk o f s) := .of_eq rfl rfl rfl

theorem stands_appendEntry (e : StepEntry) : DriveStands s (appendEntry e s) := .of_eq rfl rfl rfl

theorem stands_nextCandidate : DriveStands s (nextCandidate s) := by
  unfold nextCandidate
  split
  · exact (stands_setWalk s _).trans (stands_requestLocate _)
  · exact stands_endWalk s _ _

theorem stands_reclosingTest (p : Pos) : DriveStands s (reclosingTest p s) := by
  unfold reclosingTest
  split
  · exact stands_nextCandidate s
  · exact .refl s

theorem stands_reclosingAfter (h : Holder) (b : Bool) (ps : List Pos) (s₀ : State) :
    DriveStands s (reclosingAfter h b ps s₀ s) := by
  unfold reclosingAfter
  split
  · split
    · exact stands_reclosingTest s _
    · exact .refl s
  · exact .refl s

theorem stands_latch (p : Pos) : DriveStands s (latch p s) := (stands_modifyQual s p _).trans (stands_markRetained _)

theorem stands_openReport (p : Pos) : DriveStands s (openReport p s) := by
  unfold openReport
  split
  · split
    · exact stands_modifyQual s p _
    · exact stands_latch s p
  · exact .refl s

theorem stands_emitCleared (p : Pos) (q : QualRecord) : DriveStands s (emitCleared p q s) := by
  unfold emitCleared
  split
  · exact stands_emit s _ _ _ _
  · exact .refl s

theorem stands_emitRemoved (p : Pos) (h : Holder) (old : HoldSet) : DriveStands s (emitRemoved p h old s) := by
  unfold emitRemoved
  split
  · exact stands_emit s _ _ _ _
  · exact .refl s

theorem stands_markUnlatched (q : QualRecord) : DriveStands s (markUnlatched q s) := by
  unfold markUnlatched
  split
  · exact stands_markRetained s
  · exact .refl s

theorem stands_holdSuspicion (p : Pos) : DriveStands s (holdSuspicion p s) := by
  unfold holdSuspicion
  split
  · exact stands_modifyQual s p _
  · exact stands_modifyQual s p _

theorem stands_recovered (p : Pos) : DriveStands s (recovered p s) := (stands_setQual s p _).trans (stands_emit _ _ _ _ _)

theorem stands_confirmTrial (p : Pos) : DriveStands s (confirmTrial p s) := by
  unfold confirmTrial
  split
  · exact stands_recovered s p
  · exact stands_modifyQual s p _

theorem stands_confirmRecovery (p : Pos) : DriveStands s (confirmRecovery p s) := by
  unfold confirmRecovery
  split
  · exact stands_recovered s p
  · exact stands_modifyQual s p _

theorem stands_startWalk (o : WalkOrigin) : DriveStands s (startWalk o s) :=
  ((stands_setWalk s _).trans (stands_emit _ _ _ _ _)).trans (stands_nextCandidate _)

theorem stands_setAlarm (a : AlarmState) (n : Nat) : DriveStands s (setAlarm a n s) := .of_eq rfl rfl rfl

theorem stands_rise (n : Nat) : DriveStands s (rise n s) := by
  have hset := (stands_setAlarm s .alarm 0).trans (stands_emit _ .leakage .set none .absent)
  unfold rise enterAlarm
  split
  · dsimp only
    split
    · exact hset.trans (stands_startWalk _ _)
    · exact hset
  · exact stands_setAlarm s _ _

theorem stands_fall (n : Nat) : DriveStands s (fall n s) := by
  unfold fall
  split
  · exact (stands_setAlarm s _ _).trans (stands_emit _ _ _ _ _)
  · exact stands_setAlarm s _ _

theorem stands_moveAlarm (l : Nat) : DriveStands s (moveAlarm l s) := by
  unfold moveAlarm
  split
  · split
    · exact stands_rise s _
    · exact stands_rise s _
    · exact .refl s
    · exact stands_setAlarm s _ _
  · split
    · split
      · exact .refl s
      · exact stands_setAlarm s _ _
      · exact stands_fall s _
      · exact stands_fall s _
    · exact .refl s

theorem stands_takeLeakage (l : Nat) : DriveStands s (takeLeakage l s) :=
  DriveStands.trans (t := { s with leakage := { s.leakage with last := l } }) (.of_eq rfl rfl rfl) (stands_moveAlarm _ l)

theorem stands_learn (r : SweepRecord) : DriveStands s (learn r s) :=
  ⟨rfl, fun _ => rfl, fun p => by rw [learn_pos], fun p => by rw [learn_pos], fun p => by rw [learn_pos]; rfl⟩

theorem stands_emitVerified (p : Pos) (a b : Condition) : DriveStands s (emitVerified p a b s) := by
  unfold emitVerified
  split
  · exact stands_emit s _ _ _ _
  · split
    · exact stands_emit s _ _ _ _
    · split
      · exact stands_emit s _ _ _ _
      · exact .refl s

theorem stands_startWrite : DriveStands s (startWrite s) := .of_eq (by simp) (by simp) (by simp)

theorem stands_endSave (k : CopyName) (c : Copy Settings) (good : Bool) : DriveStands s (endSave k c good s) :=
  .of_eq rfl rfl rfl

theorem stands_endRetained (k : CopyName) (c : Copy Retained) (good : Bool) : DriveStands s (endRetained k c good s) := by
  unfold endRetained
  dsimp only
  split
  · exact .of_eq rfl rfl rfl
  · exact .of_eq (by simp) (by simp) (by simp)

theorem stands_discardFrame (q : Port) : DriveStands s (discardFrame q s) := by
  unfold discardFrame
  split
  · exact stands_modifyPort s q _
  · exact .refl s
  · exact .refl s

/-! ### Targets and hold changes (R84 to R89, R108) -/

/-- A target taken where the laws hold finds its order as it calls for it (R108). -/
theorem queue_takeTarget (p : Pos) : KeepsQueue s (takeTarget p s) :=
  ⟨fun hs => hs.retargeted (List.nodup_singleton p) rfl (fun _ => rfl) (fun _ => rfl) (fun _ => rfl) (fun _ _ => rfl),
    takeTarget_batch s p⟩

section
variable {s : State} (h : Holder) (b : Bool) (r : Option Reason) {ps : List Pos} (hps : ps.Nodup)
include hps

theorem putHolders_pos (p : Pos) :
    (putHolders s h b r (ps.filter (alters h b s))).pos p =
      if p ∈ ps ∧ alters h b s p = true then heldAs h b r s.uptime (s.pos p) else s.pos p := by
  rw [putHolders, foldl_putHolder_pos s h b r _ (hps.filter _)]
  simp only [List.mem_filter]

/-- FAULT inserted again for an interrupted trial asks for no other target (R89): after the targets are taken, a hold change
touches nothing more that the laws speak of. -/
theorem stands_changeHolder :
    DriveStands (takeTargets (ps.filter (alters h b s)) (putHolders s h b r (ps.filter (alters h b s))))
      (changeHolder h b r ps s) := by
  have hsettings : (putHolders s h b r (ps.filter (alters h b s))).settings = s.settings :=
    foldl_stands State.settings (by intros; rfl) _ s
  refine ⟨changeHolder_drive s h b r hps, role_eq_of_settings ?_, fun p => ?_, fun p => ?_, fun p => ?_⟩
  · rw [(acts_changeHolder s h b r ps).settings, (acts_takeTargets _ _).settings, hsettings]
  all_goals
    rw [takeTargets_pos, putHolders_pos h b r hps, changeHolder_pos s h b r ps hps]
    split
    · split
      · next hi =>
        obtain ⟨rfl, -⟩ := (interrupts_iff s h b p).1 hi
        simp [PosState.held, heldAs, heldInterrupted, put_true_ne_empty]
      · rfl
    · rfl

/-- A hold change: the hold sets change, and the targets of the positions changed are taken (R85, R87). -/
theorem queue_changeHolder : KeepsQueue s (changeHolder h b r ps s) := by
  refine ⟨fun hs => ?_, changeHolder_batch s h b r hps⟩
  have hsettings : (putHolders s h b r (ps.filter (alters h b s))).settings = s.settings :=
    foldl_stands State.settings (by intros; rfl) _ s
  refine (stands_changeHolder h b r hps).queueLaws (hs.retargeted (hps.filter _)
    (foldl_stands State.drive (by intros; rfl) _ s) (role_eq_of_settings hsettings) (fun p => ?_) (fun p => ?_)
    (fun p hp => ?_))
  · rw [putHolders_pos h b r hps]
    split <;> rfl
  · rw [putHolders_pos h b r hps]
    split <;> rfl
  · rw [putHolders_pos h b r hps, if_neg (by rwa [List.mem_filter] at hp)]

theorem queue_changeHolds : KeepsQueue s (changeHolds h b r ps s) :=
  (queue_changeHolder h b r hps).trans (stands_reclosingAfter _ h b ps s).queue

end

/-- A hold change at one position. -/
theorem queue_changeHoldAt (h : Holder) (b : Bool) (r : Option Reason) (p : Pos) :
    KeepsQueue s (changeHolds h b r [p] s) := queue_changeHolds h b r (List.nodup_singleton p)

/-- LOCATE replaced by FAULT in one change, and the target taken (R78). -/
theorem queue_replaceLocate (p : Pos) : KeepsQueue s (replaceLocate p s) := by
  unfold replaceLocate
  split
  · refine ⟨fun hs => hs.retargeted (List.nodup_singleton p) rfl (fun _ => rfl) (fun j => ?_) (fun j => ?_)
      (fun j hj => ?_), takeTarget_batch _ p⟩
    · rw [modify_pos]
      split
      · next h => rw [h]
      · rfl
    · rw [modify_pos]
      split
      · next h => rw [h]
      · rfl
    · rw [modify_pos, if_neg (by simpa using hj)]
  · exact .refl s

/-! ### Condition reports (R68, R74, R88) -/

theorem queue_faultReport (p : Pos) : KeepsQueue s (faultReport p s) := by
  unfold faultReport
  split
  · exact (stands_latch s p).queue
  · exact (stands_latch s p).queue
  · exact (stands_latch s p).queue.trans (queue_changeHoldAt _ _ _ _ p)
  · exact .refl s

theorem queue_qualReport (p : Pos) (c : Condition) : KeepsQueue s (qualReport p c s) := by
  cases c with
  | closed => exact (stands_setResidual s p 0).queue
  | opened => exact (stands_openReport s p).queue
  | moving => exact .refl s
  | jammedClosed => exact queue_faultReport s p
  | jammedOpen => exact queue_faultReport s p
  | conductingOpen => exact queue_faultReport s p
  | absent => exact .refl s

theorem queue_walkReport (p : Pos) (c : Condition) : KeepsQueue s (walkReport p c s) := by
  unfold walkReport
  split
  · split
    · exact (stands_setWalk s _).queue
    · exact ((queue_changeHoldAt s _ _ _ p).trans (stands_appendEntry _ _).queue).trans (stands_nextCandidate _).queue
    · exact (stands_reclosingTest s p).queue
    · exact .refl s
  · exact .refl s

theorem queue_handOn (p : Pos) (c : Condition) : KeepsQueue s (handOn p c s) :=
  (queue_qualReport s p c).trans (queue_walkReport _ p c)

/-! ### Conditions written (R9, R10, R112, R116, R118) -/

theorem ordered_remove (d : Drive) (p j : Pos) (t : Target) :
    ordered ((d.remove p).queue t) j ↔ j ≠ p ∧ ordered (d.queue t) j := by
  rw [queue_remove]
  constructor
  · rintro ⟨o, ho, rfl⟩
    obtain ⟨hq, hne⟩ := List.mem_filter.1 ho
    exact ⟨by simpa using hne, o, hq, rfl⟩
  · rintro ⟨hne, o, hq, rfl⟩
    exact ⟨o, List.mem_filter.2 ⟨hq, by simpa using hne⟩, rfl⟩

theorem QueueLaws.remove_unready {s : State} (hs : QueueLaws s) {p : Pos}
    (h : ¬ ((s.pos p).condition = .closed ∨ (s.pos p).condition = .opened)) : s.drive.remove p = s.drive :=
  Drive.remove_unordered (Bool.eq_false_iff.2 (fun ho =>
    let ⟨t, ht⟩ := (hasOrder_queue _ p).1 ho
    hs.unordered h t ht))

/-- One position that is not MOVING is written anew, with its orders gone, and its target is taken (R87, R108). -/
theorem QueueLaws.rewritten {s t u : State} (hs : QueueLaws s) {p : Pos} (hu : DriveStands t u)
    (hdrive : t.drive = s.drive.remove p) (hrole : ∀ j, j ≠ p → t.role j = s.role j)
    (hpos : ∀ j, j ≠ p → t.pos j = s.pos j) (hstill : (s.pos p).condition ≠ .moving)
    (hcondition : (t.pos p).condition ≠ .moving) (hgate : (t.pos p).gate = (s.pos p).gate)
    (habsent : (t.pos p).condition = .absent ↔ t.role p ≠ .switched) : QueueLaws (takeTarget p u) := by
  have hmoving : t.drive.moving = s.drive.moving := Drive.moving_congr (by rw [hdrive]; rfl)
  have hidle : p ∉ s.drive.moving := fun hp => hstill ((hs.moving p).2 hp)
  refine Rewritten.taken (ps := [p]) (s := s) ?_ hu (List.nodup_singleton p) hs
  constructor
  case orders => intro v j; rw [hdrive, ordered_remove, List.mem_singleton]
  case sublist => intro v; rw [hdrive, queue_remove]; exact List.filter_sublist
  case moving =>
    intro j
    rw [hmoving, List.mem_singleton]
    exact ⟨fun hj => ⟨fun h => hidle (h ▸ hj), hj⟩, And.right⟩
  case batch => intro b hb; rw [hdrive] at hb; exact hb
  case role => exact fun j hj => hrole j (by simpa using hj)
  case condition => exact fun j hj => by rw [hpos j (by simpa using hj)]
  case gate => exact fun j hj => by rw [hpos j (by simpa using hj)]
  case held => exact fun j hj => by rw [hpos j (by simpa using hj)]
  case still => exact fun j hj => List.mem_singleton.1 hj ▸ hcondition
  case off => exact fun j hj => by rw [List.mem_singleton.1 hj, hgate]; exact hs.gate_off hstill
  case absent => exact fun j hj => List.mem_singleton.1 hj ▸ habsent

/-- A position in some condition but ABSENT is SWITCHED (Table 6-1). -/
theorem QueueLaws.switched {s : State} (hs : QueueLaws s) {p : Pos} (h : (s.pos p).condition ≠ .absent) :
    s.role p = .switched := not_not.1 (fun hr => h ((hs.absent p).2 hr))

/-- The condition of one SWITCHED position that is not MOVING is written anew, and its target is taken (R87, R108). -/
theorem QueueLaws.reconditioned {s u : State} (hs : QueueLaws s) {p : Pos} {c : Condition}
    (hu : DriveStands (removeOrder p (setCondition p c s)) u) (hstill : (s.pos p).condition ≠ .moving)
    (habsent : (s.pos p).condition ≠ .absent) (hc : c ≠ .moving) (hc' : c ≠ .absent) : QueueLaws (takeTarget p u) := by
  have hrole (j : Pos) : (removeOrder p (setCondition p c s)).role j = s.role j :=
    role_eq_of_settings (setCondition_settings s p c) j
  refine hs.rewritten hu (by simp [removeOrder]) (fun j _ => hrole j) (fun j hj => ?_) hstill ?_ ?_ ?_
  · rw [removeOrder_pos, setCondition_pos, if_neg hj]
  all_goals rw [removeOrder_pos, setCondition_pos, if_pos rfl]
  · exact hc
  · rw [hrole]; exact iff_of_false hc' (not_not.2 (hs.switched habsent))

/-- An OPEN position reported conducting loses its order (R108, R116). -/
theorem queue_conductingOpenReport (p : Pos) : KeepsQueue s (conductingOpenReport p s) := by
  unfold conductingOpenReport
  split
  · next ho =>
    refine KeepsQueue.trans ⟨fun hs => ?_, ?_⟩ (queue_handOn _ p .conductingOpen)
    · exact hs.reconditioned (stands_emit _ _ _ _ _) (by rw [ho]; decide) (by rw [ho]; decide) nofun nofun
    · rw [takeTarget_batch]
      simp [removeOrder, Drive.remove]
  · exact .refl s

theorem readContact_cases (c : Contacts) (p : Pos) : readContact c p = .closed ∨ readContact c p = .opened := by
  unfold readContact
  split
  · exact .inl rfl
  · exact .inr rfl

theorem readContact_ne_moving (c : Contacts) (p : Pos) : readContact c p ≠ .moving := by
  rcases readContact_cases c p with h | h <;> rw [h] <;> decide

theorem readContact_ne_absent (c : Contacts) (p : Pos) : readContact c p ≠ .absent := by
  rcases readContact_cases c p with h | h <;> rw [h] <;> decide

/-- A switch in a switch fault is read afresh: it had no order, and its target is taken (R108, R118). -/
theorem queue_clearSwitch (c : Contacts) (p : Pos) : KeepsQueue s (clearSwitch c p s) := by
  unfold clearSwitch
  split
  · next hf =>
    have hfault {k : Condition} (hk : k.isFault = false) : (s.pos p).condition ≠ k := fun h => by
      rw [h, hk] at hf
      cases hf
    refine KeepsQueue.trans ⟨fun hs => ?_, ?_⟩ (queue_handOn _ p (readContact c p))
    · have hremoved : removeOrder p (setCondition p (readContact c p) s) = setCondition p (readContact c p) s := by
        rw [removeOrder, setCondition_drive, hs.remove_unready (not_or.2 ⟨hfault rfl, hfault rfl⟩)]
        simp only [← setCondition_drive s p (readContact c p)]
      refine hs.reconditioned (c := readContact c p) ?_ (hfault rfl) (hfault rfl) (readContact_ne_moving c p)
        (readContact_ne_absent c p)
      rw [hremoved]
      exact (stands_setResidual _ p 0).trans (stands_emit _ _ _ _ _)
    · rw [takeTarget_batch]
      simp
  · exact .refl s

/-- An OPEN position leaves SWITCHED: it loses its order, and is ABSENT (R8, R9). -/
theorem queue_leaveSwitching {p : Pos} (ho : (s.pos p).condition = .opened) {r : Role} (hr : r ≠ .switched) :
    KeepsQueue s (leaveSwitching p r s) := by
  have hleft : KeepsQueue s ((setCondition p .absent (removeOrder p (setRole p r s))).modify p
      (unswitched s.settings.trialCount s.uptime)) := by
    refine ⟨fun hs => ?_, by simp [removeOrder, Drive.remove]⟩
    have hrole (j : Pos) : ((setCondition p .absent (removeOrder p (setRole p r s))).modify p
        (unswitched s.settings.trialCount s.uptime)).role j = if j = p then r else s.role j :=
      (role_eq_of_settings (setCondition_settings _ p _) j).trans (setRole_role s p j r)
    have hpos (j : Pos) : ((setCondition p .absent (removeOrder p (setRole p r s))).modify p
        (unswitched s.settings.trialCount s.uptime)).pos j
        = if j = p then unswitched s.settings.trialCount s.uptime { s.pos p with condition := .absent } else s.pos j := by
      rw [modify_pos]
      split
      · rw [setCondition_pos, if_pos rfl]; rfl
      · next hj => rw [setCondition_pos, if_neg hj]; rfl
    rw [← takeTarget_unready (p := p) (s := State.modify _ p _) (by rw [hpos, if_pos rfl]; rintro (h | h) <;> cases h)]
    refine hs.rewritten (.refl _) (by simp [removeOrder]) (fun j hj => by rw [hrole, if_neg hj])
      (fun j hj => by rw [hpos, if_neg hj]) (by rw [ho]; decide) ?_ ?_ ?_
    all_goals rw [hpos, if_pos rfl]
    · exact nofun
    · rfl
    · rw [hrole, if_pos rfl]; exact iff_of_true rfl hr
  exact hleft.trans (((((stands_emitRemoved _ p _ _).trans (stands_emitRemoved _ p _ _)).trans
    (stands_emitCleared _ p _)).trans (stands_markUnlatched _ _)).queue.trans (queue_walkReport _ p _))

/-- A position becomes SWITCHED: it was ABSENT, its contact is read, and its target taken (R10). -/
theorem queue_enterSwitching (c : Contacts) {p : Pos} (hr : s.role p ≠ .switched) :
    KeepsQueue s (enterSwitching c p s) := by
  rw [enterSwitching_eq]
  refine KeepsQueue.trans ⟨fun hs => ?_, ?_⟩ (queue_handOn _ p (readContact c p))
  · have habsent := (hs.absent p).2 hr
    have hrole (j : Pos) : ((setCondition p (readContact c p) (setRole p .switched s)).modify p
        (newlySwitched s.settings.trialCount s.uptime s.safety.state)).role j = if j = p then .switched else s.role j :=
      (role_eq_of_settings (setCondition_settings _ p _) j).trans (setRole_role s p j _)
    have hunordered : s.drive.remove p = s.drive := hs.remove_unready (by rw [habsent]; rintro (h | h) <;> cases h)
    refine hs.rewritten (stands_emitCleared _ p _) (by simp [hunordered]) (fun j hj => by rw [hrole, if_neg hj])
      (fun j hj => ?_) (by rw [habsent]; decide) ?_ ?_ ?_
    · rw [modify_pos, if_neg hj, setCondition_pos, if_neg hj]; rfl
    all_goals rw [modify_pos, if_pos rfl, setCondition_pos, if_pos rfl]
    · exact readContact_ne_moving c p
    · rfl
    · rw [hrole, if_pos rfl]; exact iff_of_false (readContact_ne_absent c p) (fun h => h rfl)
  · rw [takeTarget_batch, emitCleared_drive]
    simp

/-- A role change between MONITORED and UNUSED leaves the position ABSENT (R11). -/
theorem queue_rerole {p : Pos} (hr : s.role p ≠ .switched) {r : Role} (hr' : r ≠ .switched) :
    KeepsQueue s (clearRecord p (setRole p r s)) := by
  refine KeepsQueue.trans (t := setRole p r s) ⟨fun hs => ⟨hs.opens, hs.closes, hs.opens_nodup, hs.closes_nodup, hs.moving,
    hs.gates, fun j => ?_, hs.batch⟩, rfl⟩
    (((stands_setQual _ p _).trans (stands_setResidual _ p 0)).trans (stands_emitCleared _ p _)).queue
  rw [setRole_role]
  split
  · next hj => subst hj; exact (hs.absent j).trans (iff_of_true hr hr')
  · exact hs.absent j

/-- A role change to another role than the one that stands (R7 to R11). -/
theorem queue_changeRole (c : Contacts) {p : Pos} {r : Role} (hr : r ≠ s.role p) :
    ∀ t ∈ changeRole c p r s, KeepsQueue s t := by
  intro t ht
  by_cases hswitched : s.role p = .switched
  · cases hrefused : roleChangeRefused p s with
    | true => rw [changeRole_refused c hswitched hrefused] at ht; cases ht
    | false =>
      rw [changeRole_leave c hswitched hrefused] at ht
      cases ht
      have hopen : (s.pos p).condition = .opened := not_not.1 (fun ho =>
        absurd ((roleChangeRefused_iff p s).2 (.inl ho)) (Bool.eq_false_iff.1 hrefused))
      exact queue_leaveSwitching s hopen (hswitched ▸ hr)
  · by_cases hnew : r = .switched
    · subst hnew
      rw [changeRole_enter c hswitched] at ht
      cases ht
      exact queue_enterSwitching s c hswitched
    · rw [changeRole_between c hswitched hnew] at ht
      cases ht
      exact queue_rerole s hswitched hnew

end Sys2Proof.Machine
end

section
/-! PROOFS. The laws of the Switch Drive across the Fault Qualifier's share of a completion, the walk's decisions, the
requests and the completion of a batch. -/

namespace Sys2Proof.Machine

variable (s : State)

/-! ### The Fault Qualifier's share of a completion (R61 to R80) -/

theorem queue_declaredStanding (p : Pos) : KeepsQueue s (declaredStanding p s) := by
  unfold declaredStanding
  split
  · exact (stands_openReport s p).queue
  · exact queue_faultReport s p
  · exact queue_faultReport s p
  · exact queue_faultReport s p
  · exact .refl s

theorem queue_insertFault (p : Pos) (c : Abnormal) : KeepsQueue s (insertFault p c s) :=
  (queue_changeHolder _ _ _ (List.nodup_singleton p)).trans
    ((stands_emit _ _ _ _ _).trans (stands_reclosingAfter _ _ _ _ _)).queue

theorem queue_declare (p : Pos) (c : Abnormal) : KeepsQueue s (declare p c s) := by
  unfold declare
  split
  · exact ((stands_modifyQual s p _).queue.trans (queue_insertFault _ p c)).trans (queue_declaredStanding _ p)
  · exact ((stands_modifyQual s p _).trans (stands_emit _ _ _ _ _)).queue
  · exact .refl s

theorem queue_countAbnormal (p : Pos) (c : Abnormal) : KeepsQueue s (countAbnormal p c s) := by
  unfold countAbnormal
  split
  · exact (stands_modifyQual s p _).queue.trans (queue_declare _ p c)
  · exact (stands_modifyQual s p _).queue

theorem queue_recheckExpired (p : Pos) : KeepsQueue s (recheckExpired p s) := by
  unfold recheckExpired
  split
  · exact (stands_latch s p).queue
  · split
    · exact (stands_modifyQual s p _).queue.trans (queue_changeHoldAt _ _ _ _ p)
    · exact (stands_modifyQual s p _).queue

theorem queue_waitingSweep (p : Pos) : KeepsQueue s (waitingSweep p s) := by
  unfold waitingSweep
  split
  · split
    · exact queue_recheckExpired s p
    · exact (stands_modifyQual s p _).queue
  · exact .refl s

theorem queue_takeClass (p : Pos) (cls : Class) (c : Condition) : KeepsQueue s (takeClass p cls c s) := by
  unfold takeClass
  split
  · exact .refl s
  · split
    · exact queue_countAbnormal s p _
    · exact queue_countAbnormal s p _
    · exact (stands_modifyQual s p _).queue
    · exact (stands_holdSuspicion s p).queue
    · exact queue_waitingSweep s p
    · split
      · exact queue_countAbnormal s p _
      · exact .refl s
    · split
      · exact (stands_confirmTrial s p).queue
      · exact .refl s
    · exact (stands_confirmRecovery s p).queue
    · exact (stands_modifyQual s p _).queue
    · exact .refl s

theorem queue_countResidual (p : Pos) : KeepsQueue s (countResidual p s) := by
  unfold countResidual
  split
  · exact (stands_setResidual s p _).queue.trans (queue_conductingOpenReport _ p)
  · exact (stands_setResidual s p _).queue

theorem queue_takeResidual (p : Pos) (cls : Class) (c : Condition) : KeepsQueue s (takeResidual p cls c s) := by
  unfold takeResidual
  split
  · split
    · exact queue_countResidual s p
    · exact .refl s
  · exact (stands_setResidual s p 0).queue
  · exact .refl s

theorem queue_takePosition (r : SweepRecord) (p : Pos) : KeepsQueue s (takePosition r p s) :=
  (queue_takeClass s p _ _).trans (queue_takeResidual _ p _ _)

theorem queue_clearFault (p : Pos) : KeepsQueue s (clearFault p s) := by
  unfold clearFault
  split
  · exact .refl s
  · exact ((stands_setQual s p _).queue.trans (queue_changeHolder _ _ _ (List.nodup_singleton p))).trans
      (((stands_emitCleared _ p _).trans (stands_markUnlatched _ _)).trans (stands_reclosingAfter _ _ _ _ _)).queue

/-! ### The walk's decisions and the loop (R78, R122 to R146) -/

theorem queue_groundLatch (p : Pos) : KeepsQueue s (groundLatch p s) :=
  ((stands_modifyQual s p _).queue.trans (queue_replaceLocate _ p)).trans
    ((stands_emit _ _ _ _ _).trans (stands_markRetained _)).queue

theorem queue_walkSweep (l : Nat) : KeepsQueue s (walkSweep l s) := by
  unfold walkSweep baselineDecision measuringDecision
  split
  · split
    · exact (stands_endWalk s _ _).queue
    · split
      · exact ((stands_appendEntry s _).trans (stands_nextCandidate _)).queue
      · exact (stands_setWalk s _).queue.trans (queue_changeHoldAt _ _ _ _ _)
  · split
    · exact ((stands_appendEntry s _).queue.trans (queue_groundLatch _ _)).trans (stands_endWalk _ _ _).queue
    · exact ((stands_appendEntry s _).queue.trans (queue_changeHoldAt _ _ _ _ _)).trans
        ((stands_setWalk _ _).trans (stands_reclosingTest _ _)).queue
  · exact .refl s

theorem queue_abandonWalk : KeepsQueue s (abandonWalk s) := by
  unfold abandonWalk releaseCandidate
  split
  · exact .refl s
  · split
    · exact (queue_changeHolder _ _ _ (List.nodup_singleton _)).trans (stands_endWalk _ _ _).queue
    · exact (stands_endWalk s _ _).queue

theorem queue_trip : KeepsQueue s (trip s) :=
  (((stands_setSafety s _ _ _).queue.trans (queue_changeHolder _ _ _ (switchedPositions_nodup s))).trans
    (stands_emit _ _ _ _ _).queue).trans (queue_abandonWalk _)

theorem queue_restore : KeepsQueue s (restore s) :=
  ((stands_setSafety s _ _ _).queue.trans (queue_changeHolder _ _ _ (List.nodup_finRange 24))).trans
    ((stands_emit _ _ _ _ _).trans (stands_reclosingAfter _ _ _ _ _)).queue

/-! ### Sweeps handed on (R19) -/

theorem queue_handOver (r : SweepRecord) (run : Running) (l : Nat) : KeepsQueue s (handOver r run l s) := by
  unfold handOver
  split
  · exact ((stands_learn s r).queue.trans (.foldl _ (fun s p => queue_takePosition s r p) _ _)).trans
      (stands_takeLeakage _ l).queue
  · exact (stands_modifyPort s _ _).queue
  · exact (stands_modifyPort s _ _).queue
  · exact (stands_modifyPort s _ _).queue
  · split
    · exact queue_walkSweep s l
    · exact .refl s

theorem queue_completeSweep (r : SweepRecord) (run : Running) (l : Nat) : KeepsQueue s (completeSweep r run l s) :=
  ((stands_setSeq s _).queue.trans (queue_handOver _ _ run l)).trans (stands_startNext _).queue

/-! ### Settings written (R167) -/

theorem stands_putSetting {x : Setting} (hx : ∀ p, x ≠ .role p) (v : Nat) : DriveStands s (putSetting x v s) :=
  ⟨rfl, fun p => congrArg (Vector.get · p) (put_role_of_ne s.settings hx v), fun _ => rfl, fun _ => rfl, fun _ => rfl⟩

theorem stands_applyIfIdle (l : Link) : DriveStands s (applyIfIdle l s) := by
  unfold applyIfIdle
  split
  · exact stands_modifyPort s _ _
  · exact .refl s

/-- Every position changed elsewhere than in its condition, its gate and its hold set. -/
theorem stands_map {f : PosState → PosState} (hcondition : ∀ x, (f x).condition = x.condition)
    (hgate : ∀ x, (f x).gate = x.gate) (hholds : ∀ x, (f x).holds = x.holds) :
    DriveStands s { s with positions := s.positions.map f } := by
  have hpos (p : Pos) : ({ s with positions := s.positions.map f } : State).pos p = f (s.pos p) := get_map f _ p
  refine ⟨rfl, fun _ => rfl, fun p => ?_, fun p => ?_, fun p => ?_⟩
  · rw [hpos, hcondition]
  · rw [hpos, hgate]
  · rw [hpos, PosState.held, hholds]; rfl

theorem stands_afterNumber (n : Number) (v : Nat) : DriveStands s (afterNumber n v s) := by
  cases n with
  | routineInterval => exact stands_setSeq s _
  | trialCount => exact stands_map s (fun _ => rfl) (fun _ => rfl) (fun _ => rfl)
  | recheckInterval => exact stands_map s (fun _ => rfl) (fun _ => rfl) (fun _ => rfl)
  | stationP => exact stands_applyIfIdle s .p
  | stationS => exact stands_applyIfIdle s .s
  | _ => exact .refl s

/-- A setting that is no role. -/
theorem stands_changeSetting (c : Contacts) {x : Setting} (hx : ∀ p, x ≠ .role p) (v : Nat) :
    ∀ t ∈ changeSetting c x v s, DriveStands s t := by
  intro t ht
  have hput := stands_putSetting s hx v
  cases x with
  | role p => exact absurd rfl (hx p)
  | peerGroup p => cases ht; exact hput.trans (stands_setRatio _ p _)
  | number n => cases ht; exact hput.trans (stands_afterNumber _ n v)
  | speed l => cases ht; exact hput.trans (stands_applyIfIdle _ l)
  | _ => cases ht; exact hput

theorem stands_writeApplied (c : Contacts) (code index : Byte) {x : Setting} (hx : ∀ p, x ≠ .role p) (v : Nat) :
    DriveStands s (writeApplied c code index x v s).1 := by
  unfold writeApplied
  split
  · exact .refl s
  · split
    · next t ht => exact stands_changeSetting s c hx v t ht
    · exact .refl s

/-- A role written that differs from the one that stands is another role (R7). -/
theorem role_written_ne {p : Pos} {v w : Nat} (hv : (Setting.role p).applied w = some v)
    (hne : v ≠ s.settings.value (.role p)) : (Role.ofCode v).getD (s.role p) ≠ s.role p := by
  obtain ⟨hcode, ⟨⟩⟩ := Option.ite_none_right_eq_some.1 hv
  obtain ⟨r, hr⟩ := Option.isSome_iff_exists.1 hcode
  rw [hr]
  rintro rfl
  exact hne (Role.code_of_ofCode hr).symm

theorem queue_writeApplied (c : Contacts) (code index : Byte) {x : Setting} {v w : Nat} (hv : x.applied w = some v) :
    KeepsQueue s (writeApplied c code index x v s).1 := by
  by_cases hx : ∃ p, x = .role p
  · obtain ⟨p, rfl⟩ := hx
    unfold writeApplied
    split
    · exact .refl s
    · next hne =>
      split
      · next t ht => exact queue_changeRole s c (role_written_ne s hv hne) t ht
      · exact .refl s
  · exact (stands_writeApplied s c code index (fun p hp => hx ⟨p, hp⟩) v).queue

/-! ### Requests judged (R77, R90, R118, R137, R162) -/

theorem queue_checked {r : Request} {q : Port} {ok : Bool} {f : State → Reply} (h : KeepsQueue s (f s).1) :
    KeepsQueue s (checked r q ok f s).1 := by
  rcases checked_cases r q ok f s with he | ⟨he, -, -⟩
  · rw [he]; exact .refl s
  · rw [he]; exact h

theorem queue_holdRequest (b : Bool) (q : Port) (body : List Byte) : KeepsQueue s (holdRequest b q body s).1 := by
  unfold holdRequest
  split
  · exact .refl s
  · exact queue_changeHolds _ _ _ (maskPositions_nodup body)

/-- A body that carries a setting carries a value that it applies (R167). -/
theorem applied_of_bodyWrite {body : List Byte} {x : Setting} {v : Nat} (h : bodyWrite body = some (x, v)) :
    bodySetting 4 body = some x ∧ ∃ w, x.applied w = some v := by
  unfold bodyWrite at h
  split at h
  · next y hy =>
    obtain ⟨w, hw, he⟩ := Option.map_eq_some_iff.1 h
    cases he
    exact ⟨hy, _, hw⟩
  · cases h

/-- The requests that may change hold sets, conditions or roles, and so orders. -/
def Request.orders : Request → Bool
  | .placeHold => true
  | .releaseHold => true
  | .clearFault => true
  | .clearSwitch => true
  | .writeSetting => true
  | _ => false

theorem stands_checked {r : Request} {q : Port} {ok : Bool} {f : State → Reply} (h : DriveStands s (f s).1) :
    DriveStands s (checked r q ok f s).1 := by
  rcases checked_cases r q ok f s with he | ⟨he, -, -⟩
  · rw [he]; exact .refl s
  · rw [he]; exact h

/-- The other requests touch nothing the laws speak of. -/
theorem stands_judgeCode (c : Contacts) (q : Port) {code : Byte} (body : List Byte)
    (h : ∀ r ∈ Request.ofCode code, r.orders = false) : DriveStands s (judgeCode c q code body s).1 := by
  unfold judgeCode
  cases hreq : Request.ofCode code with
  | none => exact .refl s
  | some r =>
    have hr := h r hreq
    cases r with
    | readStatus => exact stands_checked s (.refl s)
    | readPosition => refine stands_checked s ?_; split <;> exact .refl s
    | readMap => exact stands_checked s (.refl s)
    | requestSweep =>
      refine stands_checked s ?_
      split
      · exact .refl s
      · split
        · exact .refl s
        · exact (stands_setSeq s _).trans (stands_startNext _)
    | pinSweep =>
      refine stands_checked s ?_
      split
      · exact .refl s
      · split
        · exact .refl s
        · split
          · exact .refl s
          · exact .of_eq rfl rfl rfl
    | readSweep =>
      refine stands_checked s ?_
      split
      · split <;> exact .refl s
      · exact .refl s
    | unpinSweep =>
      refine stands_checked s ?_
      split
      · exact .of_eq rfl rfl rfl
      · exact .refl s
    | startLocate =>
      refine stands_checked s ?_
      split
      · exact .refl s
      · split
        · exact .refl s
        · exact stands_startWalk s _
    | readWalk => exact stands_checked s (.refl s)
    | fetchNotices => exact stands_checked s (.of_eq rfl rfl rfl)
    | readSetting => refine stands_checked s ?_; split <;> exact .refl s
    | saveSettings =>
      refine stands_checked s ?_
      split
      · exact .refl s
      · exact .of_eq rfl rfl rfl
    | resetRatio =>
      refine stands_checked s ?_
      split
      · exact stands_setRatio s _ _
      · exact .refl s
    | _ => cases hr

theorem queue_judgeCode (c : Contacts) (q : Port) (code : Byte) (body : List Byte) :
    KeepsQueue s (judgeCode c q code body s).1 := by
  cases hreq : Request.ofCode code with
  | none => exact (stands_judgeCode s c q body (fun r hr => by rw [hreq] at hr; cases hr)).queue
  | some r =>
    cases horders : r.orders with
    | false =>
      refine (stands_judgeCode s c q body (fun r' hr => ?_)).queue
      rw [hreq] at hr
      cases hr
      exact horders
    | true =>
      unfold judgeCode
      rw [hreq]
      cases r with
      | placeHold => exact queue_checked s (queue_holdRequest s true q body)
      | releaseHold => exact queue_checked s (queue_holdRequest s false q body)
      | clearFault =>
        refine queue_checked s ?_
        split
        · exact queue_clearFault s _
        · exact .refl s
      | clearSwitch =>
        refine queue_checked s ?_
        split
        · exact queue_clearSwitch s c _
        · exact .refl s
      | writeSetting =>
        refine queue_checked s ?_
        split
        · next x v hbody =>
          obtain ⟨-, w, hw⟩ := applied_of_bodyWrite hbody
          exact queue_writeApplied s c _ _ hw
        · exact .refl s
      | _ => cases horders

/-! ### Every request, as a frame (R158 to R162) -/

theorem stands_sendAnswer (q : Port) (station code : Byte) (reply : Reply) :
    DriveStands reply.1 (sendAnswer q station code reply) := stands_modifyPort _ q _

theorem queue_judgeFrame (q : Port) (station code : Byte) {f : State → Reply} (h : ∀ s, KeepsQueue s (f s).1) :
    KeepsQueue s (judgeFrame q station code f s) := by
  unfold judgeFrame
  split
  · exact ((stands_modifyPort s q _).queue.trans (h _)).trans (stands_sendAnswer q station code _).queue
  · exact (stands_modifyPort s q _).queue

theorem queue_receiveRequest (q : Port) (station code : Byte) (body : List Byte) {f : State → Reply}
    (h : ∀ s, KeepsQueue s (f s).1) : KeepsQueue s (receiveRequest q station code body f s) := by
  unfold receiveRequest
  split
  · exact queue_judgeFrame s q station code h
  · exact .refl s

theorem stands_receiveRequest (q : Port) (station code : Byte) (body : List Byte) {f : State → Reply}
    (h : ∀ s, DriveStands s (f s).1) : DriveStands s (receiveRequest q station code body f s) := by
  unfold receiveRequest judgeFrame
  split
  · split
    · exact ((stands_modifyPort s q _).trans (h _)).trans (stands_sendAnswer q station code _)
    · exact stands_modifyPort s q _
  · exact .refl s

theorem queue_takeChar (c : Contacts) (q : Port) (char : Byte) : KeepsQueue s (takeChar c q char s) := by
  unfold takeChar takeChars judgeChars
  split
  · split
    · exact (stands_modifyPort s q _).queue
    · exact .refl s
  · split
    · split
      · exact (stands_modifyPort s q _).queue
      · exact (stands_modifyPort s q _).queue
    · split
      · split
        · exact queue_judgeFrame s q _ _ (fun s => queue_judgeCode s c q _ _)
        · exact (stands_modifyPort s q _).queue
      · exact (stands_modifyPort s q _).queue
  · exact .refl s

end Sys2Proof.Machine
end

section
/-! PROOFS. The laws of the Switch Drive at the end of an event and of a batch (R110 to R112), and that every command
keeps them. -/

namespace Sys2Proof.Machine

/-! ### The end of an event (R110, R170) -/

/-- No order waits without a batch (R110). -/
def NoneWaiting (s : State) : Prop := s.drive.batch = none → s.drive.openQ = [] ∧ s.drive.closeQ = []

/-- What ends an event forms the batch its orders wait for, where they wait only if the event has appended them. -/
theorem QueueLaws.driveLaws_conclude {s₀ s : State} (hs : QueueLaws s) (hw : appended s₀ s = false → NoneWaiting s) :
    DriveLaws (conclude s₀ s) := by
  have hformed : DriveLaws (formBatchAfter s₀ s) := by
    unfold formBatchAfter
    split
    · exact hs.driveLaws_formBatch
    · next ha => exact (driveLaws_iff s).2 ⟨hs, hw (Bool.eq_false_iff.2 ha)⟩
  unfold conclude startWriteAfter
  split
  · exact hformed
  · have hstands := stands_startWrite (formBatchAfter s₀ s)
    obtain ⟨hlaws, hwaiting⟩ := (driveLaws_iff _).1 hformed
    exact (driveLaws_iff _).2 ⟨hstands.queueLaws hlaws, by rw [hstands.drive]; exact hwaiting⟩

/-- Where no order waited before an event, an order that waits after it is one that the event has appended. -/
theorem noneWaiting_of_not_appended {s₀ s : State} (h₀ : NoneWaiting s₀) (hbatch : s.drive.batch = s₀.drive.batch)
    (ha : appended s₀ s = false) : NoneWaiting s := by
  intro hb
  obtain ⟨hopen, hclose⟩ := h₀ (hbatch ▸ hb)
  have hnone := mt (appended_iff s₀ s).2 (Bool.eq_false_iff.1 ha)
  rw [hopen, hclose] at hnone
  simp only [List.not_mem_nil, not_false_eq_true, and_true, not_or, not_exists] at hnone
  exact ⟨List.eq_nil_iff_forall_not_mem.2 hnone.1, List.eq_nil_iff_forall_not_mem.2 hnone.2⟩

/-! ### The completion of a batch (R112) -/

theorem ascending_perm (os : List BatchOrder) : (ascending os).Perm os := List.perm_insertionSort _ os

theorem setVerified_rest (c : Contacts) (os : List BatchOrder) (s : State) :
    (setVerified c os s).drive = s.drive ∧ (setVerified c os s).settings = s.settings :=
  ⟨foldl_stands State.drive (by simp) os s, foldl_stands State.settings (by simp) os s⟩

theorem result_settled (c : Contacts) (x : BatchOrder) : x.result c ≠ .moving ∧ x.result c ≠ .absent := by
  unfold BatchOrder.result
  cases x.target <;> cases c.closed x.position <;> decide

/-- The state whose batch in flight has ended (R112). -/
def withoutBatch (s : State) : State := { s with drive := { s.drive with batch := none } }

/-- The conditions verified of the batch in flight, which has ended: its positions had no orders, and are MOVING no longer
(R112). -/
theorem QueueLaws.rewritten_setVerified {s : State} (hs : QueueLaws s) {b : Batch} (hb : s.drive.batch = some b)
    (c : Contacts) {os : List BatchOrder} (hos : os.Perm b.orders) :
    Rewritten (os.map BatchOrder.position) s
      (setVerified c os (withoutBatch s)) := by
  obtain ⟨hdrive, hsettings⟩ := setVerified_rest c os (withoutBatch s)
  have hqueue (u : Target) : (setVerified c os (withoutBatch s)).drive.queue u
      = s.drive.queue u := by rw [hdrive]; cases u <;> rfl
  have hin (p : Pos) : p ∈ os.map BatchOrder.position ↔ p ∈ s.drive.moving := by
    rw [(hos.map _).mem_iff, Drive.moving, hb]
  have hmoving (p : Pos) (hp : p ∈ os.map BatchOrder.position) : (s.pos p).condition = .moving :=
    (hs.moving p).2 ((hin p).1 hp)
  have hpos (p : Pos) (hp : p ∉ os.map BatchOrder.position) :
      (setVerified c os (withoutBatch s)).pos p = s.pos p :=
    setVerified_pos_elsewhere c _ hp
  have hrole (p : Pos) := role_eq_of_settings hsettings p
  constructor
  case orders =>
    intro u p
    rw [hqueue]
    refine ⟨fun ho => ⟨fun hp => ?_, ho⟩, And.right⟩
    exact hs.unordered (by rw [hmoving p hp]; rintro (h | h) <;> cases h) u ho
  case sublist => intro u; rw [hqueue]
  case moving =>
    intro p
    rw [hin, Drive.moving_congr (congrArg Drive.batch hdrive)]
    exact iff_of_false List.not_mem_nil (fun h => h.1 h.2)
  case batch => intro b' hb'; rw [hdrive] at hb'; cases hb'
  case role => exact fun p _ => hrole p
  case condition => exact fun p hp => by rw [hpos p hp]
  case gate => exact fun p hp => by rw [hpos p hp]
  case held => exact fun p hp => by rw [hpos p hp]
  case still =>
    intro p hp
    obtain ⟨x, -, -, hx, -⟩ := setVerified_pos c (withoutBatch s) hp
    rw [hx]
    exact (result_settled c x).1
  case off =>
    intro p hp
    obtain ⟨-, -, -, -, hoff⟩ := setVerified_pos c (withoutBatch s) hp
    exact hoff
  case absent =>
    intro p hp
    obtain ⟨x, -, -, hx, -⟩ := setVerified_pos c (withoutBatch s) hp
    rw [hx, hrole]
    exact iff_of_false (result_settled c x).2
      (not_not.2 (hs.switched (by rw [hmoving p hp]; decide)))

theorem queue_emitBatch (c : Contacts) (os : List BatchOrder) (s : State) : KeepsQueue s (emitBatch c os s) :=
  .foldl _ (fun s _ => (stands_emitVerified s _ _ _).queue) os s

theorem queue_handOnBatch (c : Contacts) (os : List BatchOrder) (s : State) : KeepsQueue s (handOnBatch c os s) :=
  .foldl _ (fun s _ => queue_handOn s _ _) os s

/-- A batch completes: its positions are verified, their targets taken and their reports handed on, and the next batch is
formed (R110, R112). -/
theorem QueueLaws.driveLaws_completeBatch {s : State} (hs : QueueLaws s) {b : Batch} (hb : s.drive.batch = some b)
    (c : Contacts) : DriveLaws (completeBatch c b s) := by
  have hperm := ascending_perm b.orders
  have hnodup : ((ascending b.orders).map BatchOrder.position).Nodup := (hperm.map _).nodup_iff.2 (hs.batch b hb).2.1
  have htaken := (hs.rewritten_setVerified hb c hperm).taken (.refl _) hnodup hs
  exact ((queue_handOnBatch c _ _).laws ((queue_emitBatch c _ _).laws htaken)).driveLaws_formBatch

/-! ### Every command -/

/-- Whatever state an outcome leads to, the laws are kept there. -/
def DriveKeptBy (s : State) (o : Host.Outcome State Fault Refusal) : Prop :=
  ∀ t, o = .next t → DriveLaws s → DriveLaws t

theorem DriveKeptBy.next {s t : State} (h : DriveLaws s → DriveLaws t) : DriveKeptBy s (.next t) := by
  intro u hu
  cases hu
  exact h

theorem DriveKeptBy.stay (s : State) : DriveKeptBy s (.next s) := .next id

theorem DriveKeptBy.stands {s t : State} (h : DriveStands s t) : DriveKeptBy s (.next t) := by
  refine .next (fun hs => ?_)
  obtain ⟨hlaws, hwaiting⟩ := (driveLaws_iff s).1 hs
  exact (driveLaws_iff t).2 ⟨h.queueLaws hlaws, by rw [h.drive]; exact hwaiting⟩

/-- An event ends, and forms the batch that its orders call for (R110, R170). -/
theorem DriveKeptBy.concluded {s t : State} (h : KeepsQueue s t) : DriveKeptBy s (.next (conclude s t)) := by
  refine .next (fun hs => ?_)
  obtain ⟨hlaws, hwaiting⟩ := (driveLaws_iff s).1 hs
  exact (h.laws hlaws).driveLaws_conclude (noneWaiting_of_not_appended hwaiting h.batch)

theorem DriveKeptBy.ite {s : State} {c : Prop} [Decidable c] {o o' : Host.Outcome State Fault Refusal}
    (h : DriveKeptBy s o) (h' : DriveKeptBy s o') : DriveKeptBy s (if c then o else o') := by
  split
  · exact h
  · exact h'

/-- The pulses of the batch in flight move on at their due moment, and its orders stand (R111). -/
theorem DriveKeptBy.pulses {s : State} {b b' : Batch} (hb : s.drive.batch = some b) (horders : b'.orders = b.orders)
    (t : Nat) : DriveKeptBy s (.next (setBatch b' (advanceTo t s))) := by
  refine .next (fun hs => ?_)
  obtain ⟨hlaws, -⟩ := (driveLaws_iff s).1 hs
  have hmoving : (setBatch b' (advanceTo t s)).drive.moving = s.drive.moving := by
    simp only [Drive.moving, hb, setBatch, horders]
  refine (driveLaws_iff _).2 ⟨⟨hlaws.opens, hlaws.closes, hlaws.opens_nodup, hlaws.closes_nodup, fun p => ?_, fun p => ?_,
    hlaws.absent, fun d hd => ?_⟩, nofun⟩
  · rw [hmoving]; exact hlaws.moving p
  · rw [hmoving]; exact hlaws.gates p
  · cases hd
    rw [horders]
    exact hlaws.batch b hb

/-! ### The request rows -/

/-- Of the codes of settings one names a role (Table 11-1). -/
theorem code_of_role {code index : Nat} {p : Pos} (h : Setting.ofCode code index = some (.role p)) : code = 0x20 := by
  unfold Setting.ofCode at h
  split at h
  all_goals simp_all [atIndexZero]

/-- A Write Setting of another setting than a role touches nothing the laws speak of. -/
theorem stands_receiveWrite (c : Contacts) (q : Port) (station : Byte) {code : Nat} (hcode : (byte code).toNat ≠ 0x20)
    (index : Byte) (value : Half) (s : State) : DriveStands s (receiveWrite c q station code index value s) := by
  refine stands_receiveRequest s q station _ _ (fun s => stands_checked s ?_)
  split
  · next x v hbody =>
    refine stands_writeApplied s c _ _ (fun p hp => ?_) v
    obtain ⟨hsetting, -⟩ := applied_of_bodyWrite hbody
    obtain ⟨-, hnamed⟩ := Option.ite_none_right_eq_some.1 hsetting
    exact hcode (code_of_role (hp ▸ hnamed))
  · exact .refl s

/-- A request that changes no orders. -/
theorem drive_quiet {r : Request} (hr : r.orders = false) (c : Contacts) (q : Port) (station : Byte) (body : List Byte)
    (s : State) : DriveKeptBy s (.next (receiveRequest q station r.code body (judgeCode c q r.code body) s)) := by
  refine .stands (stands_receiveRequest s q station r.code body (fun s => stands_judgeCode s c q body (fun r' h => ?_)))
  rw [ofCode_code] at h
  cases h
  exact hr

/-- A request that ends as an event. -/
theorem drive_event (c : Contacts) (q : Port) (station code : Byte) (body : List Byte) (s : State) :
    DriveKeptBy s (.next (conclude s (receiveRequest q station code body (judgeCode c q code body) s))) :=
  .concluded (queue_receiveRequest s q station code body (fun s => queue_judgeCode s c q code body))

theorem drive_write (q : Port) (station : Byte) {code : Nat} (hcode : (byte code).toNat ≠ 0x20) (index : Byte)
    (value : Half) (s : State) : DriveKeptBy s (.next (receiveWrite noContacts q station code index value s)) :=
  .stands (stands_receiveWrite noContacts q station hcode index value s)

/-- Every request row keeps the laws: those that may change orders end as an event. -/
theorem drive_request {c : Instr} {f : RequestFrame} (h : requestOf c = some f) (s : State) : DriveKeptBy s (exec c s) := by
  cases c with
  | readStatus q st b => exact drive_quiet (r := .readStatus) rfl 0 q st b s
  | readPosition q st b => exact drive_quiet (r := .readPosition) rfl 0 q st b s
  | readMap q st b => exact drive_quiet (r := .readMap) rfl 0 q st b s
  | readWalk q st b => exact drive_quiet (r := .readWalk) rfl 0 q st b s
  | requestSweep q st b => exact drive_quiet (r := .requestSweep) rfl 0 q st b s
  | pinSweep q st b => exact drive_quiet (r := .pinSweep) rfl 0 q st b s
  | readSweep q st b => exact drive_quiet (r := .readSweep) rfl 0 q st b s
  | unpinSweep q st b => exact drive_quiet (r := .unpinSweep) rfl 0 q st b s
  | placeHold q st b => exact drive_event 0 q st 0x20 b s
  | releaseHold q st b => exact drive_event 0 q st 0x21 b s
  | clearFault q st b => exact drive_event 0 q st 0x22 b s
  | clearSwitch q st b c => exact drive_event c q st 0x23 b s
  | startLocate q st b => exact drive_event 0 q st 0x30 b s
  | fetchNotices q st b => exact drive_quiet (r := .fetchNotices) rfl 0 q st b s
  | readSetting q st b => exact drive_quiet (r := .readSetting) rfl 0 q st b s
  | writeSetting q st b c => exact drive_event c q st 0x51 b s
  | writeRole q st i v c => exact drive_event c q st 0x51 _ s
  | writePeerGroup q st i v => exact drive_write q st (by decide) i v s
  | writeExclusionFlag q st i v => exact drive_write q st (by decide) i v s
  | writeBlendWeight q st i v => exact drive_write q st (by decide) i v s
  | writeRoutineInterval q st i v => exact drive_write q st (by decide) i v s
  | writeQualifierSetting q st w i v => exact drive_write q st (by cases w <;> decide) i v s
  | writeLearningEnable q st i v => exact drive_write q st (by decide) i v s
  | writeSwitchTiming q st w i v => exact drive_write q st (by cases w <;> decide) i v s
  | writeRestoreDelay q st i v => exact drive_write q st (by decide) i v s
  | writeLeakageSetting q st w i v => exact drive_write q st (by cases w <;> decide) i v s
  | writeWalkSetting q st w i v => exact drive_write q st (by cases w <;> decide) i v s
  | writeLinkSetting q st w l i v => exact drive_write q st (by cases w <;> cases l <;> decide) i v s
  | writeSubscription q st r i v => exact drive_write q st (by cases r <;> decide) i v s
  | saveSettings q st b => exact drive_event 0 q st 0x52 b s
  | resetRatio q st b => exact drive_quiet (r := .resetRatio) rfl 0 q st b s
  | unknownRequestCode q st k b =>
    simp only [exec, execUnknownRequestCode]
    exact .ite (.stay s) (.stands (stands_receiveRequest s q st k b (fun s => .refl s)))
  | _ => cases h

/-! ### The other commands -/

/-- RESET forms the first batch of the queue that the reconciliation leaves (R172). -/
theorem drive_reset (c : Contacts) (loopClosed keyOn : Bool) (s : State) :
    DriveKeptBy s (exec (.reset c loopClosed keyOn) s) := by
  rw [exec_reset]
  exact .next (fun _ => (queueLaws_reconciled ..).driveLaws_formBatch)

theorem drive_batchCompletion (c : Contacts) (s : State) : DriveKeptBy s (exec (.batchCompletion c) s) := by
  simp only [exec, execBatchCompletion]
  split
  · next b hb =>
    refine .ite (.next (fun hs => ?_)) (.stay s)
    obtain ⟨hlaws, -⟩ := (driveLaws_iff s).1 hs
    have hcompleted := ((stands_advanceTo s (b.start + b.completion)).queueLaws hlaws).driveLaws_completeBatch hb c
    obtain ⟨hdone, hwaiting⟩ := (driveLaws_iff _).1 hcompleted
    exact hdone.driveLaws_conclude (fun _ => hwaiting)
  · exact .stay s

/-- Every command that is no request row keeps the laws. -/
theorem drive_command {c : Instr} (h : requestOf c = none) (s : State) : DriveKeptBy s (exec c s) := by
  cases c with
  | frameDiscarded q => exact .ite (.stands (stands_modifyPort s q _)) (.stay s)
  | lengthDiscard q => exact .ite (.stands (stands_modifyPort s q _)) (.stay s)
  | characterGapTimeout q => exact .stands (stands_discardFrame s q)
  | characterError q => exact .stands (stands_discardFrame s q)
  | answerSent q =>
    simp only [exec, execAnswerSent]
    split
    · exact .stands (stands_modifyPort s q _)
    · exact .stay s
    · exact .stay s
  | reset c loopClosed keyOn => exact drive_reset c loopClosed keyOn s
  | loopOpening =>
    simp only [exec, execLoopOpening]
    split
    · exact .concluded (queue_trip s)
    · exact .stands (stands_setSafety s _ _ _)
    · exact .stay s
  | loopClosing =>
    simp only [exec, execLoopClosing]
    split
    · exact .stands (stands_setSafety s _ _ _)
    · exact .stay s
    · exact .stay s
  | restoreTimerExpiry =>
    simp only [exec, execRestoreTimerExpiry]
    split
    · exact .concluded ((stands_advanceTo s _).queue.trans (queue_restore _))
    · exact .stay s
  | keyChange => exact .stands (.of_eq rfl rfl rfl)
  | routineTimerExpiry =>
    have hrearm : DriveStands s (rearmRoutine (advanceTo (s.seq.routineDue * 1000) s)) := .of_eq rfl rfl rfl
    exact .ite (.stands hrearm) (.stands ((hrearm.trans (stands_setSeq _ _)).trans (stands_startNext _)))
  | sweepStart => exact .stands (stands_startNext s)
  | channelBurstComplete v =>
    simp only [exec, execChannelBurstComplete]
    split
    · exact .ite (.stands (stands_setSeq s _)) (.stay s)
    · exact .stay s
  | sweepComplete v =>
    simp only [exec, execSweepComplete]
    split
    · exact .ite (.concluded (queue_completeSweep s _ _ _)) (.stay s)
    · exact .stay s
  | declaration p c => exact .ite (.concluded (queue_countAbnormal s p c)) (.stay s)
  | suspicionAbandoned p => exact .ite (.stands (stands_holdSuspicion s p)) (.stay s)
  | recheckTimerExpiry p => exact .ite (.concluded (queue_recheckExpired s p)) (.stay s)
  | trialSuccess p => exact .ite (.stands (stands_confirmTrial s p)) (.stay s)
  | reportedRecovery p => exact .ite (.stands (stands_confirmRecovery s p)) (.stay s)
  | residualDebounceReached p => exact .ite (.concluded (queue_countResidual s p)) (.stay s)
  | leakageAlarmEntry l => exact .ite (.stands (stands_takeLeakage s _)) (.stay s)
  | leakageAlarmClear l => exact .ite (.stands (stands_takeLeakage s _)) (.stay s)
  | settleTimerExpiry =>
    simp only [exec, execSettleTimerExpiry]
    split
    · exact .stands (((stands_advanceTo s _).trans (stands_setWalk _ _)).trans (stands_requestLocate _))
    · exact .stay s
  | batchStart => exact .next (fun hs => ((driveLaws_iff s).1 hs).1.driveLaws_formBatch)
  | bypassSettleExpiry =>
    simp only [exec, execBypassSettleExpiry]
    split
    · next b hb => exact .ite (.pulses hb (by unfold Batch.settle; split <;> rfl) _) (.stay s)
    · exact .stay s
  | coilPulseEnd =>
    simp only [exec, execCoilPulseEnd]
    split
    · next b hb =>
      exact .ite (.pulses (b' := { b with resetPulse := .done }) hb rfl _)
        (.ite (.pulses (b' := { b with setPulse := .done }) hb rfl _) (.stay s))
    · exact .stay s
  | nonOverlapExpiry =>
    simp only [exec, execNonOverlapExpiry]
    split
    · next b hb => exact .ite (.pulses (b' := { b with setPulse := .on }) hb rfl _) (.stay s)
    · exact .stay s
  | batchCompletion c => exact drive_batchCompletion c s
  | hourlyRatioMark =>
    have hsnapshot : DriveStands s (snapshotRatios (advanceTo (s.nextHour * 1000) s)) := .of_eq rfl rfl rfl
    exact .concluded (hsnapshot.trans (stands_markRetained _)).queue
  | saveWriteStart =>
    simp only [exec, execSaveWriteStart]
    split
    · exact .stands (stands_startWrite s)
    · exact .stay s
  | saveComplete good =>
    simp only [exec, execSaveComplete]
    split
    · exact .stands ((stands_endSave s _ _ _).trans (stands_startWrite _))
    · exact .stay s
  | retainedWriteStart =>
    simp only [exec, execRetainedWriteStart]
    split
    · exact .stands (stands_startWrite s)
    · exact .stay s
  | retainedWriteComplete good =>
    simp only [exec, execRetainedWriteComplete]
    split
    · exact .stands ((stands_endRetained s _ _ _).trans (stands_startWrite _))
    · exact .stay s
  | characterReceived q char c => exact .concluded (queue_takeChar s c q char)
  | unknownRequestCode q station code body =>
    have hknown : (Request.ofCode code).isSome = true := by
      by_contra hk
      rw [requestOf, if_neg hk] at h
      cases h
    simp only [exec, execUnknownRequestCode, if_pos hknown]
    exact .stay s
  | _ => cases h

/-- Settles O55: request rows and all other commands keep the laws. -/
theorem driveLawsKept : Obligations.DriveLawsKept := by
  intro c s t hs he
  cases hc : requestOf c with
  | some f => exact drive_request hc s t he hs
  | none => exact drive_command hc s t he hs

end Sys2Proof.Machine
end

section
/-! PROOFS. Clear Switch (R118): the request, and the condition that its answer carries. -/

namespace Sys2Proof.Machine

section
variable {s : State} {p : Pos}

theorem isFault_iff (k : Condition) :
    k.isFault = true ↔ k = .jammedClosed ∨ k = .jammedOpen ∨ k = .conductingOpen := by
  cases k <;> decide

theorem clearSwitch_sound (h : ¬ (s.pos p).condition.isFault = true) (c : Contacts) : clearSwitch c p s = s := if_neg h

/-- A switch in a switch fault takes the condition its contact reads, and the report of it (R118). -/
theorem clearSwitch_faulty (h : (s.pos p).condition.isFault = true) (c : Contacts) :
    clearSwitch c p s =
      handOn p (readContact c p) (takeTarget p (emit .switch .clear (some p) (.condition (readContact c p))
        (setResidual p 0 (setCondition p (readContact c p) s)))) := if_pos h

/-- The condition read stands after its report: the answer carries it (R118; log entry 24). -/
theorem clearSwitch_condition (h : (s.pos p).condition.isFault = true) (c : Contacts) :
    ((clearSwitch c p s).pos p).condition = readContact c p := by
  rw [clearSwitch_faulty h, handOn, walkReport_condition, qualReport_condition, takeTarget_pos, emit_pos,
    setResidual_pos, if_pos rfl, setCondition_pos, if_pos rfl]

end

/-- At the Service Port with the Lockout Key ON the request is judged on the position that its body names (R118, R162). -/
theorem judgeClearSwitch_byte (c : Contacts) {s : State} (hkey : s.key = true) (p : Pos) :
    judgeClearSwitch c .service [byte p.number] s
      = (clearSwitch c p s, [0x00, byte ((clearSwitch c p s).pos p).condition.code]) := by
  rw [judgeClearSwitch, checked_keyed rfl (by simp [bodyPosition_byte]) (fun _ => hkey), bodyPosition_byte]
  rfl

theorem exec_clearSwitch {station : Byte} {p : Pos} {s : State} (c : Contacts) (hkey : s.key = true)
    (hr : Ready .service station 0x23 [byte p.number] s) :
    exec (.clearSwitch .service station [byte p.number] c) s
      = .next (conclude s (answered .service station 0x23 [0x00, byte ((clearSwitch c p s).pos p).condition.code]
        (clearSwitch c p s))) := by
  have hjudge := judgeClearSwitch_byte c (s := toAnswering .service s) hkey p
  rw [toAnswering_clearSwitch] at hjudge
  have hreceive := receiveRequest_ready hr (judgeClearSwitch c .service [byte p.number])
  rw [takeRequest_change hjudge] at hreceive
  exact congrArg (fun t => Host.Outcome.next (conclude s t)) hreceive

/-- Settles O32: the request is `clearSwitch`, which reads the contact of a position in a switch fault alone. -/
theorem switchCleared : Obligations.SwitchCleared := by
  intro station p c s hkey hr k read faulty
  have hread : read = readContact c p := rfl
  have hfaulty : faulty ↔ k.isFault = true := (isFault_iff k).symm
  refine ⟨fun hf => ?_, fun hf => ?_⟩
  · rw [exec_clearSwitch c hkey hr, clearSwitch_sound (mt hfaulty.2 hf)]
    exact congrArg _ (conclude_id rfl rfl)
  · rw [exec_clearSwitch c hkey hr, clearSwitch_condition (hfaulty.1 hf), clearSwitch_faulty (hfaulty.1 hf), hread]

end Sys2Proof.Machine
end

section
/-! PROOFS. A target taken by Table 6-2 (R87, R108), and the end of an event (R109, R110, R169, R170). -/

namespace Sys2Proof.Machine

section
variable {s : State} {p : Pos}

theorem hasOrder_iff_queued (d : Drive) (p : Pos) :
    d.hasOrder p = true ↔ ∃ o, (o ∈ d.openQ ∨ o ∈ d.closeQ) ∧ o.position = p := by
  simp only [Drive.hasOrder_iff, ordered, or_and_right, exists_or]

/-- A target that the condition meets removes a queued order (Table 6-2). -/
theorem takeTarget_met (hc : (s.pos p).condition = .closed ∨ (s.pos p).condition = .opened)
    (h : (s.pos p).holds.target.condition = (s.pos p).condition) : takeTarget p s = removeOrder p s := by
  rw [takeTarget, if_pos hc, if_pos h]

/-- Another target leaves an order that is queued (Table 6-2). -/
theorem takeTarget_queued (hc : (s.pos p).condition = .closed ∨ (s.pos p).condition = .opened)
    (h : (s.pos p).holds.target.condition ≠ (s.pos p).condition) (ho : s.drive.hasOrder p = true) :
    takeTarget p s = s := by
  rw [takeTarget, if_pos hc, if_neg h, if_pos ho]

/-- Another target appends an order where none is queued (Table 6-2). -/
theorem takeTarget_appends (hc : (s.pos p).condition = .closed ∨ (s.pos p).condition = .opened)
    (h : (s.pos p).holds.target.condition ≠ (s.pos p).condition) (ho : ¬ s.drive.hasOrder p = true) :
    takeTarget p s = { s with drive := s.drive.append (s.pos p).holds.target ⟨p, s.uptime⟩ } := by
  rw [takeTarget, if_pos hc, if_neg h, if_neg ho]

theorem target_ne_closed (hc : (s.pos p).condition = .closed) : Target.opened.condition ≠ (s.pos p).condition :=
  fun h => absurd (h.trans hc) (by decide)

theorem target_ne_opened (hc : (s.pos p).condition = .opened) : Target.closed.condition ≠ (s.pos p).condition :=
  fun h => absurd (h.trans hc) (by decide)

theorem target_of_free {h : HoldSet} (hh : h = HoldSet.empty) : h.target = .closed := if_pos hh

end

/-- Settles O31: each line of Table 6-2 is a branch of `takeTarget`. -/
theorem targetTaken : Obligations.TargetTaken := by
  intro s p c held queued others
  have hqueued : s.drive.hasOrder p = true ↔ queued := hasOrder_iff_queued s.drive p
  have htarget : held → (s.pos p).holds.target = .opened := target_of_held
  have hfree (h : ¬ held) : (s.pos p).holds.target = .closed := target_of_free (not_not.1 h)
  refine ⟨fun h => ?met, fun h hq => ?queued, fun hc hh hq => ?opens, fun hc hh hq => ?closes, fun hc ho => ?unready⟩
  case met =>
    have hothers : removeOrder p s
        = { s with drive := { s.drive with openQ := others s.drive.openQ, closeQ := others s.drive.closeQ } } := by
      have hfilter (q : List Order) : others q = q.filter (fun o => o.position != p) :=
        List.filter_congr (fun o _ => by simp [bne, beq_eq_decide])
      rw [hfilter, hfilter]
      rfl
    rw [← hothers]
    rcases h with ⟨hc, hh⟩ | ⟨hc, hh⟩
    · exact takeTarget_met (.inl hc) (by rw [hfree hh]; exact hc.symm)
    · exact takeTarget_met (.inr hc) (by rw [htarget hh]; exact hc.symm)
  case queued =>
    rcases h with ⟨hc, hh⟩ | ⟨hc, hh⟩
    · exact takeTarget_queued (.inl hc) (by rw [htarget hh]; exact target_ne_closed hc) (hqueued.2 hq)
    · exact takeTarget_queued (.inr hc) (by rw [hfree hh]; exact target_ne_opened hc) (hqueued.2 hq)
  case opens =>
    rw [takeTarget_appends (.inl hc) (by rw [htarget hh]; exact target_ne_closed hc) (mt hqueued.1 hq),
      htarget hh]
    rfl
  case closes =>
    rw [takeTarget_appends (.inr hc) (by rw [hfree hh]; exact target_ne_opened hc) (mt hqueued.1 hq),
      hfree hh]
    rfl
  case unready => exact takeTarget_unready (not_or.2 ⟨hc, ho⟩)

/-- A store that writes starts no other write (R170). -/
theorem startWrite_busy {s : State} (h : s.store.writing ≠ none) : startWrite s = s := by
  unfold startWrite
  split
  · contradiction
  · contradiction
  · rfl

/-- Settles O33: `conclude` is `formBatchAfter` and then, for a write newly waiting, `startWrite`. -/
theorem eventEnds : Obligations.EventEnds := by
  intro s₀ s new
  have hnew : appended s₀ s = true ↔ new := appended_iff s₀ s
  have hstore := formBatchAfter_store s₀ s
  refine ⟨fun h => ?batch, fun h => if_neg (mt hnew.1 h), fun h => ?stays, fun hw _ => ?starts⟩
  case batch => rw [formBatchAfter, if_pos (hnew.2 h)]; rfl
  case stays =>
    unfold conclude startWriteAfter
    rw [hstore]
    split
    · rfl
    · next hw => exact startWrite_busy (by rw [hstore]; exact h.resolve_left hw)
  case starts =>
    have hstarted : conclude s₀ s = startWrite (formBatchAfter s₀ s) := if_neg (by rw [hstore]; exact hw)
    rw [hstarted]
    refine ⟨fun snapshot rest hwaiting => ?_, fun rest hwaiting => ?_⟩
    · rw [← hstore] at hwaiting
      simp only [exec, execSaveWriteStart, hwaiting]
    · rw [← hstore] at hwaiting
      simp only [exec, execRetainedWriteStart, hwaiting]

end Sys2Proof.Machine
end

section
/-! PROOFS. The steps of a batch in the order of Table 6-3 (R102, R111), and the coil matrix while a pulse stands (R4,
R102). -/

namespace Sys2Proof.Machine

/-! ### The batch's next event -/

theorem awaitsNonOverlap_iff (b : Batch) :
    b.awaitsNonOverlap = true ↔
      b.settled = true ∧ b.setPulse = .due ∧ (b.resetPulse = .done ∨ (b.resetPulse = .on ∧ b.nonOverlap ≤ 30)) := by
  simp only [Batch.awaitsNonOverlap, Bool.and_eq_true, Bool.or_eq_true, beq_iff_eq, decide_eq_true_iff, and_assoc]
  rfl

theorem awaitsResetEnd_iff (b : Batch) :
    b.awaitsResetEnd = true ↔ b.resetPulse = .on ∧ (b.setPulse ≠ .due ∨ 30 ≤ b.nonOverlap) := by
  simp only [Batch.awaitsResetEnd, Bool.and_eq_true, Bool.or_eq_true, beq_iff_eq, bne_iff_ne, decide_eq_true_iff]
  rfl

theorem awaitsSetEnd_iff (b : Batch) : b.awaitsSetEnd = true ↔ b.setPulse = .on ∧ b.resetPulse ≠ .on := by
  simp [Batch.awaitsSetEnd]

section
variable {s : State} {b : Batch} (hb : s.drive.batch = some b)
include hb

theorem exec_bypassSettleExpiry (h : b.settled = false) : exec .bypassSettleExpiry s = .next (settleBatch b s) := by
  simp only [exec, execBypassSettleExpiry, hb, Batch.awaitsSettle, h]
  rfl

theorem exec_coilPulseEnd_reset (h : b.awaitsResetEnd = true) : exec .coilPulseEnd s = .next (endReset b s) := by
  simp only [exec, execCoilPulseEnd, hb, h, if_true]

theorem exec_coilPulseEnd_set (h : ¬ b.awaitsResetEnd = true) (h' : b.awaitsSetEnd = true) :
    exec .coilPulseEnd s = .next (endSet b s) := by
  simp only [exec, execCoilPulseEnd, hb, if_neg h, if_pos h']

theorem exec_nonOverlapExpiry (h : b.awaitsNonOverlap = true) : exec .nonOverlapExpiry s = .next (beginSet b s) := by
  simp only [exec, execNonOverlapExpiry, hb, h, if_true]

end

/-- The set pulses of a mixed batch begin TNO after those of a batch without reset pulses would (Table 6-3). -/
theorem setStart_eq (b : Batch) :
    b.setStart = if b.resetPulse ≠ .none then b.bypassSettle + b.nonOverlap else b.bypassSettle := by
  unfold Batch.setStart
  split <;> simp_all

/-! ### The coil matrix -/

theorem coilLines_idle {s : State} (h : s.drive.batch = none) : s.coilLines = CoilLines.off := by
  unfold State.coilLines
  rw [h]

theorem coilLines_batch {s : State} {b : Batch} (h : s.drive.batch = some b) : s.coilLines = b.coilLines := by
  unfold State.coilLines
  rw [h]

/-- A pulse stands on the position of an order where it stands in the direction of its target (R102). -/
theorem pulse_target_iff (b : Batch) (o : BatchOrder) :
    b.pulse o.target = .on ↔ (o.target = .opened ∧ b.resetPulse = .on) ∨ (o.target = .closed ∧ b.setPulse = .on) := by
  cases o.target <;> simp [Batch.pulse]

/-- A position line's driver as the orders that a pulse stands on energise it (R102). -/
theorem driver_iff (b : Batch) (t : Target) (k : Fin 6) :
    (b.pulse t = .on ∧ ∃ o ∈ b.orders, o.target = t ∧ positionLine o.position = k)
      ↔ ∃ o ∈ b.orders, b.pulse o.target = .on ∧ o.target = t ∧ o.position.val % 6 = k.val := by
  have hline (p : Pos) : positionLine p = k ↔ p.val % 6 = k.val := by rw [Fin.ext_iff]; rfl
  constructor
  · rintro ⟨hp, o, ho, rfl, hk⟩
    exact ⟨o, ho, hp, rfl, (hline _).1 hk⟩
  · rintro ⟨o, ho, hp, rfl, hk⟩
    exact ⟨hp, o, ho, rfl, (hline _).2 hk⟩

/-- A batch of one switch group energises one group line (R4, R110). -/
theorem group_unique {s : State} (hs : DriveLaws s) {b : Batch} (hb : s.drive.batch = some b) {g g' : Fin 4}
    (h : b.coilLines.group.get g = true) (h' : b.coilLines.group.get g' = true) : g = g' := by
  obtain ⟨hlaws, -⟩ := (driveLaws_iff s).1 hs
  obtain ⟨-, -, hsame⟩ := hlaws.batch b hb
  obtain ⟨o, ho, -, hg⟩ := (coilLines_group b g).1 h
  obtain ⟨o', ho', -, hg'⟩ := (coilLines_group b g').1 h'
  exact Fin.ext (hg.symm.trans ((hsame o ho o' ho').trans hg'))

/-- Settles O46: each event is the batch's next one where its condition holds, and the lines are those of the orders that
a pulse stands on. -/
theorem batchSteps : Obligations.BatchSteps := by
  refine ⟨fun s hb => coilLines_idle hb, ?_⟩
  intro s b hb applied
  have happlied (o : BatchOrder) : applied o ↔ b.pulse o.target = .on := (pulse_target_iff b o).symm
  rw [coilLines_batch hb]
  refine ⟨fun g => ?group, fun k => ?drivers, fun hs g g' => group_unique hs hb, ?_⟩
  case group => simp only [happlied]; exact coilLines_group b g
  case drivers =>
    obtain ⟨hset, hreset⟩ := coilLines_drivers b k
    simp only [happlied]
    exact ⟨hreset.trans (driver_iff b .opened k), hset.trans (driver_iff b .closed k)⟩
  intro reached mixed setStart
  have hstart : b.setStart = setStart := setStart_eq b
  refine ⟨fun hsettled hreset => ?reset, fun hsettled hreset hset => ?set, fun hreset hset => ?resetEnd,
    fun hsettled hset hreset => ?nonOverlap, fun hset hreset => ?setEnd⟩
  case reset =>
    rw [exec_bypassSettleExpiry hb hsettled, settleBatch, Batch.settle, if_pos hreset]
    rfl
  case set =>
    rw [exec_bypassSettleExpiry hb hsettled, settleBatch, Batch.settle, if_neg (by rw [hreset]; decide), if_pos hset]
    rfl
  case resetEnd =>
    rw [exec_coilPulseEnd_reset hb ((awaitsResetEnd_iff b).2 ⟨hreset, hset⟩), endReset, Nat.add_assoc]
    rfl
  case nonOverlap =>
    have hmixed : mixed := by rcases hreset with h | ⟨h, -⟩ <;> simp [mixed, h]
    rw [exec_nonOverlapExpiry hb ((awaitsNonOverlap_iff b).2 ⟨hsettled, hset, hreset⟩), beginSet, setStart_eq,
      if_pos hmixed]
    rfl
  case setEnd =>
    have hoff : b.resetPulse ≠ .on := by rcases hreset with h | h <;> rw [h] <;> decide
    rw [exec_coilPulseEnd_set hb (fun h => hoff ((awaitsResetEnd_iff b).1 h).1) ((awaitsSetEnd_iff b).2 ⟨hset, hoff⟩),
      endSet, hstart, Nat.add_assoc]
    rfl

end Sys2Proof.Machine
end

section
/-! PROOFS. The events of the Safety Loop and of the Lockout Key (R94, R122 to R126, R146), state by state. -/

namespace Sys2Proof.Machine

section
variable {s : State}

/-- An opening in ARMED trips (R124). -/
theorem exec_loopOpening_armed (h : s.safety.state = .armed) : exec .loopOpening s = .next (conclude s (trip s)) := by
  simp only [exec, execLoopOpening, h]

/-- An opening in RESTORING stops the restore timer (R124). -/
theorem exec_loopOpening_restoring (h : s.safety.state = .restoring) :
    exec .loopOpening s = .next (setSafety .tripped none false s) := by
  simp only [exec, execLoopOpening, h]

theorem exec_loopOpening_tripped (h : s.safety.state = .tripped) : exec .loopOpening s = .next s := by
  simp only [exec, execLoopOpening, h]

/-- A closing in TRIPPED starts the restore timer (R125). -/
theorem exec_loopClosing_tripped (h : s.safety.state = .tripped) :
    exec .loopClosing s = .next (setSafety .restoring (some (s.now + s.settings.restoreDelay * 1000)) true s) := by
  simp only [exec, execLoopClosing, h]

theorem exec_loopClosing_idle (h : s.safety.state ≠ .tripped) : exec .loopClosing s = .next s := by
  simp only [exec, execLoopClosing]
  split
  · contradiction
  · rfl
  · rfl

/-- The restore timer's expiry brings the return to ARMED at its due moment (R126). -/
theorem exec_restoreTimerExpiry_due {due : Nat} (h : s.safety.state = .restoring)
    (hdue : s.safety.restoreDue = some due) :
    exec .restoreTimerExpiry s = .next (conclude s (restore (advanceTo due s))) := by
  simp only [exec, execRestoreTimerExpiry, h, hdue]

end

theorem switchedPositions_eq (s : State) :
    s.switchedPositions = Pos.all.filter (fun p => decide (s.role p = .switched)) :=
  List.filter_congr (fun p _ => by cases s.role p <;> rfl)

/-- Settles O43: each event in the state of the unit that it acts in. -/
theorem loopEvents : Obligations.LoopEvents := by
  intro s switched tripped
  refine ⟨fun h => ?_, exec_loopOpening_restoring, exec_loopClosing_tripped,
    fun _ => exec_restoreTimerExpiry_due, fun _ => rfl⟩
  rw [exec_loopOpening_armed h, trip, switchedPositions_eq]
  rfl

end Sys2Proof.Machine
end

section
/-! PROOFS. The law of the Safety Loop unit (R123): SAFETY enters and leaves hold sets at a trip, a return to ARMED, a
role change and the start-up alone, and every other operation leaves SAFETY, the roles and the unit as they stand. -/

namespace Sys2Proof.Machine

/-- An operation keeps the law of the Safety Loop unit. -/
structure KeepsSafety (s t : State) : Prop where
  kept : SafetyHeld s → SafetyHeld t

theorem KeepsSafety.refl (s : State) : KeepsSafety s s := ⟨id⟩

theorem KeepsSafety.trans {s t u : State} (h : KeepsSafety s t) (k : KeepsSafety t u) : KeepsSafety s u :=
  ⟨k.kept ∘ h.kept⟩

/-- Everything that the law speaks of stands: the roles, whether the unit is ARMED, and SAFETY at every position. -/
theorem KeepsSafety.of_stands {s t : State} (hrole : ∀ p, t.role p = s.role p)
    (harmed : t.safety.state = .armed ↔ s.safety.state = .armed)
    (hheld : ∀ p, (t.pos p).holds.safety = (s.pos p).holds.safety) : KeepsSafety s t := by
  refine ⟨fun hs p => ?_⟩
  have hoff : decide (t.safety.state ≠ .armed) = decide (s.safety.state ≠ .armed) :=
    decide_eq_decide.2 (not_congr harmed)
  rw [hheld, hrole, hoff]
  exact hs p

theorem KeepsHolders.safety_eq {s t : State} (h : KeepsHolders s t) (p : Pos) :
    (t.pos p).holds.safety = (s.pos p).holds.safety := congrArg (fun x => x.2.2.2) (h p)

/-- An operation that inserts and removes FAULT and LOCATE alone. -/
theorem KeepsHolders.keepsSafety {s t : State} (h : KeepsHolders s t) (hsettings : t.settings = s.settings)
    (hsafety : t.safety = s.safety) : KeepsSafety s t :=
  .of_stands (role_eq_of_settings hsettings) (by rw [hsafety]) h.safety_eq

theorem Acts.keepsSafety {s t : State} (h : Acts s t) (k : KeepsHolders s t) : KeepsSafety s t :=
  k.keepsSafety h.settings h.safety

theorem KeepsSafety.of_eq {s t : State} (hsettings : t.settings = s.settings) (hsafety : t.safety = s.safety)
    (hpositions : t.positions = s.positions) : KeepsSafety s t :=
  (KeepsHolders.of_positions hpositions).keepsSafety hsettings hsafety

section
variable (s : State)

theorem safety_modifyPort (q : Port) (f : PortState → PortState) : KeepsSafety s (modifyPort q f s) := .of_eq rfl rfl rfl

theorem safety_setSeq (x : Sequencer) : KeepsSafety s { s with seq := x } := .of_eq rfl rfl rfl

theorem safety_advanceTo (t : Nat) : KeepsSafety s (advanceTo t s) := .of_eq rfl rfl rfl

theorem safety_markRetained : KeepsSafety s (markRetained s) := (acts_markRetained s).keepsSafety (keeps_markRetained s)

theorem safety_startNext : KeepsSafety s (startNext s) := (acts_startNext s).keepsSafety (keeps_startNext s)

theorem safety_startWrite : KeepsSafety s (startWrite s) := .of_eq (by simp) (by simp) (by simp)

theorem safety_endSave (k : CopyName) (c : Copy Settings) (good : Bool) : KeepsSafety s (endSave k c good s) :=
  .of_eq rfl rfl rfl

theorem safety_endRetained (k : CopyName) (c : Copy Retained) (good : Bool) :
    KeepsSafety s (endRetained k c good s) := by
  have hended (x : Store) : KeepsSafety s { s with store := x } := .of_eq rfl rfl rfl
  cases good with
  | true => exact hended _
  | false => exact (hended _).trans (safety_markRetained _)

theorem safety_setRatio (p : Pos) (n : Nat) : KeepsSafety s (setRatio p n s) :=
  (keeps_setRatio s p n).keepsSafety rfl rfl

theorem safety_formBatchAfter (s₀ : State) : KeepsSafety s (formBatchAfter s₀ s) :=
  (acts_formBatchAfter s s₀).keepsSafety (keeps_formBatchAfter s s₀)

theorem safety_conclude (s₀ : State) : KeepsSafety s (conclude s₀ s) := by
  unfold conclude startWriteAfter
  split
  · exact safety_formBatchAfter s s₀
  · exact (safety_formBatchAfter s s₀).trans (safety_startWrite _)

/-! ### Hold changes (R85, R89) -/

theorem put_safety (h : Holder) (b : Bool) (hs : HoldSet) :
    (hs.put h b).safety = if h = .safety then b else hs.safety := by cases h <;> rfl

section
variable {h : Holder} {b : Bool} (r : Option Reason) {ps : List Pos} (hps : ps.Nodup)
include hps

/-- A hold change reaches SAFETY where it puts SAFETY itself: an interrupted trial inserts FAULT. -/
theorem changeHolder_safety (p : Pos) :
    ((changeHolder h b r ps s).pos p).holds.safety =
      if h = .safety ∧ p ∈ ps ∧ (b = true → s.role p = .switched) then b else (s.pos p).holds.safety := by
  by_cases hp : p ∈ ps ∧ alters h b s p = true
  · have hput : ((changeHolder h b r ps s).pos p).holds.safety = ((s.pos p).holds.put h b).safety := by
      by_cases hi : interrupts h b s p = true
      · obtain ⟨rfl, -⟩ := (interrupts_iff s h b p).1 hi
        rw [changeHolder_pos_interrupted hps hp hi]
        rfl
      · rw [changeHolder_pos_put hps hp hi]
        rfl
    have hrole := ((alters_iff s h b p).1 hp.2).2
    rw [hput, put_safety]
    exact if_congr (and_iff_left ⟨hp.1, hrole⟩).symm rfl rfl
  · rw [changeHolder_pos_unchanged hps hp]
    split
    · next hc =>
      obtain ⟨rfl, hmem, hrole⟩ := hc
      by_contra hne
      exact hp ⟨hmem, (alters_iff s .safety b p).2 ⟨hne, hrole⟩⟩
    · rfl

theorem safety_changeHolder (hh : h ≠ .safety) : KeepsSafety s (changeHolder h b r ps s) := by
  have hacts := acts_changeHolder s h b r ps
  refine .of_stands (role_eq_of_settings hacts.settings) (by rw [hacts.safety]) (fun p => ?_)
  rw [changeHolder_safety s r hps, if_neg (fun hc => hh hc.1)]

theorem safety_changeHolds (hh : h ≠ .safety) : KeepsSafety s (changeHolds h b r ps s) :=
  (safety_changeHolder s r hps hh).trans
    ((acts_reclosingAfter _ h b ps s).keepsSafety (keeps_reclosingAfter _ h b ps s))

end

/-! ### The Safety Loop unit (R124 to R126) -/

/-- A unit that is outside ARMED before and after. -/
theorem safety_setSafety {a : SafetyState} (ha : a ≠ .armed) (hs : s.safety.state ≠ .armed) (due : Option Nat)
    (b : Bool) : KeepsSafety s (setSafety a due b s) := .of_stands (fun _ => rfl) (iff_of_false ha hs) (fun _ => rfl)

theorem mem_switchedPositions (p : Pos) : p ∈ s.switchedPositions ↔ s.role p = .switched := by
  simp [State.switchedPositions, Pos.mem_all]

/-- SAFETY inserted at the SWITCHED positions outside ARMED, where no position held it (R124). -/
theorem safetyHeld_inserted (h : s.safety.state ≠ .armed) (hfree : ∀ p, (s.pos p).holds.safety = false) :
    SafetyHeld (changeHolder .safety true none s.switchedPositions s) := by
  intro p
  have hacts := acts_changeHolder s .safety true none s.switchedPositions
  rw [changeHolder_safety s none (switchedPositions_nodup s), hacts.safety, role_eq_of_settings hacts.settings, hfree]
  by_cases hr : s.role p = .switched <;> simp [mem_switchedPositions, hr, h]

/-- SAFETY removed from every position in ARMED (R126). -/
theorem safetyHeld_removed (h : s.safety.state = .armed) : SafetyHeld (changeHolder .safety false none Pos.all s) := by
  intro p
  have hacts := acts_changeHolder s .safety false none Pos.all
  have hall : Pos.all.Nodup := List.nodup_finRange 24
  rw [changeHolder_safety s none hall, hacts.safety, if_pos ⟨rfl, Pos.mem_all p, nofun⟩, h]
  rfl

theorem safety_trip (h : s.safety.state = .armed) : KeepsSafety s (trip s) := by
  have hfree (hs : SafetyHeld s) (p : Pos) : (s.pos p).holds.safety = false := by rw [hs p, h]; rfl
  exact (KeepsSafety.mk (fun hs => safetyHeld_inserted (setSafety .tripped none false s) nofun (hfree hs))).trans
    (((acts_emit _ _ _ _ _).trans (acts_abandonWalk _)).keepsSafety
      ((keeps_emit _ _ _ _ _).trans (keeps_abandonWalk _)))

theorem safety_restore : KeepsSafety s (restore s) :=
  (KeepsSafety.mk (fun _ => safetyHeld_removed (setSafety .armed none true s) rfl)).trans
    (((acts_emit _ _ _ _ _).trans (acts_reclosingAfter _ _ _ _ _)).keepsSafety
      ((keeps_emit _ _ _ _ _).trans (keeps_reclosingAfter _ _ _ _ _)))

/-- RESET: the unit is outside ARMED, and the SWITCHED positions hold SAFETY (R128). -/
theorem safety_startUp (c : Contacts) (loopClosed keyOn : Bool) : KeepsSafety s (startUp c loopClosed keyOn s) := by
  refine KeepsSafety.trans ⟨fun _ p => ?_⟩ (((acts_takeTargets _ _).trans (acts_formBatch _)).keepsSafety
    ((keeps_takeTargets _ _).trans (keeps_formBatch _)))
  rw [startState_pos]
  cases loopClosed <;> simp [startPosition, startHolds, startState, startSafety, State.role]

/-! ### Role changes (R9 to R11) -/

/-- One position is given a role, and SAFETY where the law asks for it under that role. -/
theorem KeepsSafety.of_newRole {s t : State} (p : Pos) {r : Role} (hsettings : t.settings = (setRole p r s).settings)
    (hsafety : t.safety = s.safety) (hother : ∀ j, j ≠ p → t.pos j = s.pos j)
    (hheld : SafetyHeld s → (t.pos p).holds.safety = (decide (s.safety.state ≠ .armed) && r == .switched)) :
    KeepsSafety s t := by
  refine ⟨fun hs j => ?_⟩
  rw [hsafety, role_eq_of_settings hsettings, setRole_role]
  by_cases hj : j = p
  · subst hj; rw [if_pos rfl]; exact hheld hs
  · rw [if_neg hj, hother j hj]; exact hs j

/-- A position that ceases to be SWITCHED holds nothing (R9). -/
theorem safety_leaveSwitching (p : Pos) {r : Role} (hr : r ≠ .switched) : KeepsSafety s (leaveSwitching p r s) := by
  have hemptied : KeepsSafety s ((setCondition p .absent (removeOrder p (setRole p r s))).modify p
      (unswitched s.settings.trialCount s.uptime)) := by
    refine .of_newRole p (setCondition_settings _ p _) (setCondition_safety _ p _) (fun j hj => ?_) (fun _ => ?_)
    · rw [modify_pos, if_neg hj, setCondition_pos, if_neg hj]; rfl
    · rw [modify_pos, if_pos rfl, beq_false_of_ne hr, Bool.and_false]; rfl
  exact hemptied.trans
    (((((acts_emitRemoved _ p _ _).trans (acts_emitRemoved _ p _ _)).trans (acts_emitCleared _ p _)).trans
      ((acts_markUnlatched _ _).trans (acts_walkReport _ p _))).keepsSafety
    ((((keeps_emitRemoved _ p _ _).trans (keeps_emitRemoved _ p _ _)).trans (keeps_emitCleared _ p _)).trans
      ((keeps_markUnlatched _ _).trans (keeps_walkReport _ p _))))

/-- A position that becomes SWITCHED starts with SAFETY outside ARMED, and else with nothing (R10). -/
theorem safety_enterSwitching (c : Contacts) (p : Pos) : KeepsSafety s (enterSwitching c p s) := by
  rw [enterSwitching_eq]
  have hplaced : KeepsSafety s ((setCondition p (readContact c p) (setRole p .switched s)).modify p
      (newlySwitched s.settings.trialCount s.uptime s.safety.state)) := by
    refine .of_newRole p (setCondition_settings _ p _) (setCondition_safety _ p _) (fun j hj => ?_) (fun _ => ?_)
    · rw [modify_pos, if_neg hj, setCondition_pos, if_neg hj]; rfl
    · rw [modify_pos, if_pos rfl, beq_self_eq_true, Bool.and_true]; rfl
  exact hplaced.trans
    ((((acts_emitCleared _ p _).trans (acts_takeTarget _ p)).trans (acts_handOn _ p _)).keepsSafety
    (((keeps_emitCleared _ p _).trans (keeps_takeTarget _ p)).trans (keeps_handOn _ p _)))

/-- A role change between MONITORED and UNUSED leaves the position without SAFETY (R11). -/
theorem safety_rerole {p : Pos} (hp : s.role p ≠ .switched) {r : Role} (hr : r ≠ .switched) :
    KeepsSafety s (clearRecord p (setRole p r s)) := by
  have hset : KeepsSafety s (setRole p r s) := by
    refine .of_newRole p (r := r) rfl rfl (fun _ _ => rfl) (fun hs => ?_)
    have hfree := hs p
    rw [beq_false_of_ne hp, Bool.and_false] at hfree
    rw [beq_false_of_ne hr, Bool.and_false]
    exact hfree
  exact hset.trans ((acts_clearRecord _ p).keepsSafety (keeps_clearRecord _ p))

theorem safety_changeRole (c : Contacts) {p : Pos} {r : Role} (hr : r ≠ s.role p) :
    ∀ t ∈ changeRole c p r s, KeepsSafety s t := by
  intro t ht
  by_cases hswitched : s.role p = .switched
  · cases hrefused : roleChangeRefused p s with
    | true => rw [changeRole_refused c hswitched hrefused] at ht; cases ht
    | false =>
      rw [changeRole_leave c hswitched hrefused] at ht
      cases ht
      exact safety_leaveSwitching s p (hswitched ▸ hr)
  · by_cases hto : r = .switched
    · subst hto
      rw [changeRole_enter c hswitched] at ht
      cases ht
      exact safety_enterSwitching s c p
    · rw [changeRole_between c hswitched hto] at ht
      cases ht
      exact safety_rerole s hswitched hto

/-! ### Settings written (R167) -/

theorem safety_putSetting {x : Setting} (hx : ∀ p, x ≠ .role p) (v : Nat) : KeepsSafety s (putSetting x v s) :=
  .of_stands (fun p => congrArg (Vector.get · p) (put_role_of_ne s.settings hx v)) .rfl (fun _ => rfl)

theorem safety_applyIfIdle (l : Link) : KeepsSafety s (applyIfIdle l s) := by
  unfold applyIfIdle
  split
  · exact safety_modifyPort s _ _
  · exact .refl s

theorem safety_afterNumber (n : Number) (v : Nat) : KeepsSafety s (afterNumber n v s) := by
  have hholders := keeps_afterNumber s n v
  cases n with
  | stationP => exact safety_applyIfIdle s .p
  | stationS => exact safety_applyIfIdle s .s
  | _ => exact hholders.keepsSafety rfl rfl

theorem safety_changeSetting (c : Contacts) {x : Setting} {v w : Nat} (hv : x.applied w = some v)
    (hne : v ≠ s.settings.value x) : ∀ t ∈ changeSetting c x v s, KeepsSafety s t := by
  intro t ht
  cases x with
  | role p => exact safety_changeRole s c (role_written_ne s hv hne) t ht
  | peerGroup p => cases ht; exact (safety_putSetting s (by simp) v).trans (safety_setRatio _ p _)
  | number n => cases ht; exact (safety_putSetting s (by simp) v).trans (safety_afterNumber _ n v)
  | speed l => cases ht; exact (safety_putSetting s (by simp) v).trans (safety_applyIfIdle _ l)
  | _ => cases ht; exact safety_putSetting s (by simp) v

theorem safety_writeApplied (c : Contacts) (code index : Byte) {x : Setting} {v w : Nat} (hv : x.applied w = some v) :
    KeepsSafety s (writeApplied c code index x v s).1 := by
  unfold writeApplied
  split
  · exact .refl s
  · next hne =>
    split
    · next t ht => exact safety_changeSetting s c hv hne t ht
    · exact .refl s

/-! ### Requests judged (R77, R90, R91, R118, R137, R162) -/

theorem safety_checked {r : Request} {q : Port} {ok : Bool} {f : State → Reply} (h : KeepsSafety s (f s).1) :
    KeepsSafety s (checked r q ok f s).1 := by
  rcases checked_cases r q ok f s with he | ⟨he, -, -⟩
  · rw [he]; exact .refl s
  · rw [he]; exact h

theorem portHolder_ne_safety (q : Port) : portHolder q ≠ .safety := by cases q <;> decide

theorem safety_holdRequest (b : Bool) (q : Port) (body : List Byte) : KeepsSafety s (holdRequest b q body s).1 := by
  unfold holdRequest
  split
  · exact .refl s
  · exact safety_changeHolds s _ (maskPositions_nodup body) (portHolder_ne_safety q)

theorem safety_judgeCode (c : Contacts) (q : Port) (code : Byte) (body : List Byte) :
    KeepsSafety s (judgeCode c q code body s).1 := by
  unfold judgeCode
  generalize Request.ofCode code = request
  cases request with
  | none => exact .refl s
  | some r =>
    cases r with
    | readStatus => exact safety_checked s (.refl s)
    | readPosition => refine safety_checked s ?_; split <;> exact .refl s
    | readMap => exact safety_checked s (.refl s)
    | requestSweep =>
      refine safety_checked s ?_
      split
      · exact .refl s
      · split
        · exact .refl s
        · exact (safety_setSeq s _).trans (safety_startNext _)
    | pinSweep =>
      refine safety_checked s ?_
      split
      · exact .refl s
      · split
        · exact .refl s
        · split
          · exact .refl s
          · exact .of_eq rfl rfl rfl
    | readSweep =>
      refine safety_checked s ?_
      split
      · split <;> exact .refl s
      · exact .refl s
    | unpinSweep =>
      refine safety_checked s ?_
      split
      · exact .of_eq rfl rfl rfl
      · exact .refl s
    | placeHold => exact safety_checked s (safety_holdRequest s true q body)
    | releaseHold => exact safety_checked s (safety_holdRequest s false q body)
    | clearFault =>
      refine safety_checked s ?_
      split
      · exact (acts_clearFault s _).keepsSafety (keeps_clearFault s _)
      · exact .refl s
    | clearSwitch =>
      refine safety_checked s ?_
      split
      · exact (acts_clearSwitch s c _).keepsSafety (keeps_clearSwitch s c _)
      · exact .refl s
    | startLocate =>
      refine safety_checked s ?_
      split
      · exact .refl s
      · split
        · exact .refl s
        · exact (acts_startWalk s _).keepsSafety (keeps_startWalk s _)
    | readWalk => exact safety_checked s (.refl s)
    | fetchNotices => exact safety_checked s (.of_eq rfl rfl rfl)
    | readSetting => refine safety_checked s ?_; split <;> exact .refl s
    | writeSetting =>
      refine safety_checked s ?_
      split
      · next x v hbody =>
        obtain ⟨-, w, hw⟩ := applied_of_bodyWrite hbody
        exact safety_writeApplied s c _ _ hw
      · exact .refl s
    | saveSettings =>
      refine safety_checked s ?_
      split
      · exact .refl s
      · exact .of_eq rfl rfl rfl
    | resetRatio =>
      refine safety_checked s ?_
      split
      · exact safety_setRatio s _ _
      · exact .refl s

/-! ### Every request, as a frame (R158 to R162) -/

theorem safety_sendAnswer (q : Port) (station code : Byte) (reply : Reply) :
    KeepsSafety reply.1 (sendAnswer q station code reply) := safety_modifyPort _ q _

theorem safety_judgeFrame (q : Port) (station code : Byte) {f : State → Reply} (h : ∀ s, KeepsSafety s (f s).1) :
    KeepsSafety s (judgeFrame q station code f s) := by
  unfold judgeFrame
  split
  · exact ((safety_modifyPort s q _).trans (h _)).trans (safety_sendAnswer q station code _)
  · exact safety_modifyPort s q _

theorem safety_receiveRequest (q : Port) (station code : Byte) (body : List Byte) {f : State → Reply}
    (h : ∀ s, KeepsSafety s (f s).1) : KeepsSafety s (receiveRequest q station code body f s) := by
  unfold receiveRequest
  split
  · exact safety_judgeFrame s q station code h
  · exact .refl s

theorem safety_takeChars (c : Contacts) (q : Port) (chars : List Byte) : KeepsSafety s (takeChars c q chars s) := by
  unfold takeChars judgeChars
  split
  · split <;> exact safety_modifyPort s q _
  · split
    · split
      · exact safety_judgeFrame s q _ _ (fun s => safety_judgeCode s c q _ _)
      · exact safety_modifyPort s q _
    · exact safety_modifyPort s q _

theorem safety_takeChar (c : Contacts) (q : Port) (char : Byte) : KeepsSafety s (takeChar c q char s) := by
  unfold takeChar
  split
  · split
    · exact safety_modifyPort s q _
    · exact .refl s
  · exact safety_takeChars s c q _
  · exact .refl s

theorem safety_discardFrame (q : Port) : KeepsSafety s (discardFrame q s) := by
  unfold discardFrame
  split
  · exact safety_modifyPort s q _
  · exact .refl s
  · exact .refl s

/-! ### Sweeps and the walk's settling (R19, R131 to R135, R141) -/

/-- The Leakage unit changes its own part, and then offers notices and starts a walk at most. -/
theorem acts_rise (n : Nat) : ∃ x, Acts { s with leakage := x } (rise n s) := by
  unfold rise
  split
  · refine ⟨{ s.leakage with state := .alarm, count := 0 }, ?_⟩
    have hset : Acts (setAlarm .alarm 0 s) (emit .leakage .set none .absent (setAlarm .alarm 0 s)) :=
      acts_emit _ _ _ _ _
    unfold enterAlarm
    dsimp only
    split
    · exact hset.trans (acts_startWalk _ .auto)
    · exact hset
  · exact ⟨_, .refl _⟩

theorem acts_fall (n : Nat) : ∃ x, Acts { s with leakage := x } (fall n s) := by
  unfold fall
  split
  · exact ⟨{ s.leakage with state := .quiet, count := 0 }, acts_emit (setAlarm .quiet 0 s) _ _ _ _⟩
  · exact ⟨_, .refl _⟩

theorem acts_moveAlarm (l : Nat) : ∃ x, Acts { s with leakage := x } (moveAlarm l s) := by
  unfold moveAlarm
  split
  · split
    · exact acts_rise s _
    · exact acts_rise s _
    · exact ⟨_, .refl s⟩
    · exact ⟨_, .refl _⟩
  · split
    · split
      · exact ⟨_, .refl s⟩
      · exact ⟨_, .refl _⟩
      · exact acts_fall s _
      · exact acts_fall s _
    · exact ⟨_, .refl s⟩

theorem safety_takeLeakage (l : Nat) : KeepsSafety s (takeLeakage l s) := by
  obtain ⟨x, hx⟩ := acts_moveAlarm { s with leakage := { s.leakage with last := l } } l
  exact (keeps_takeLeakage s l).keepsSafety hx.settings hx.safety

theorem safety_handRoutine (r : SweepRecord) (l : Nat) : KeepsSafety s (handRoutine r l s) :=
  (((keeps_learn s r).keepsSafety rfl rfl).trans
    ((Acts.foldl _ (fun s p => acts_takePosition s r p) _ _).keepsSafety
      (.foldl _ (fun s p => keeps_takePosition s r p) _ _))).trans (safety_takeLeakage _ l)

theorem safety_handOver (r : SweepRecord) (run : Running) (l : Nat) : KeepsSafety s (handOver r run l s) := by
  unfold handOver
  split
  · exact safety_handRoutine s r l
  · exact safety_modifyPort s _ _
  · exact safety_modifyPort s _ _
  · exact safety_modifyPort s _ _
  · split
    · exact (acts_walkSweep s l).keepsSafety (keeps_walkSweep s l)
    · exact .refl s

theorem safety_completeSweep (r : SweepRecord) (run : Running) (l : Nat) : KeepsSafety s (completeSweep r run l s) :=
  ((safety_setSeq s _).trans (safety_handOver _ _ run l)).trans (safety_startNext _)

theorem safety_enterMeasuring : KeepsSafety s (enterMeasuring s) :=
  KeepsSafety.trans (t := { s with walk := { s.walk with state := .measuring, settleDue := none } })
    (.of_eq rfl rfl rfl)
    ((acts_requestLocate _).keepsSafety (keeps_requestLocate _))

end

/-! ### Every command -/

/-- Whatever state an outcome leads to, the law is kept there. -/
def SafetyKeptBy (s : State) (o : Host.Outcome State Fault Refusal) : Prop := ∀ t, o = .next t → KeepsSafety s t

section
variable {s : State}

theorem SafetyKeptBy.next {t : State} (h : KeepsSafety s t) : SafetyKeptBy s (.next t) := by
  intro u hu
  cases hu
  exact h

theorem SafetyKeptBy.stay (s : State) : SafetyKeptBy s (.next s) := .next (.refl s)

/-- An operation that inserts and removes FAULT and LOCATE alone. -/
theorem SafetyKeptBy.acts {t : State} (h : Acts s t) (k : KeepsHolders s t) : SafetyKeptBy s (.next t) :=
  .next (h.keepsSafety k)

theorem SafetyKeptBy.concluded {t : State} (h : KeepsSafety s t) : SafetyKeptBy s (.next (conclude s t)) :=
  .next (h.trans (safety_conclude _ s))

theorem SafetyKeptBy.ite {c : Prop} [Decidable c] {o o' : Host.Outcome State Fault Refusal} (h : SafetyKeptBy s o)
    (h' : SafetyKeptBy s o') : SafetyKeptBy s (if c then o else o') := by
  split
  · exact h
  · exact h'

end

section
variable (s : State)

theorem safety_request {c : Instr} {f : RequestFrame} (h : requestOf c = some f) : SafetyKeptBy s (exec c s) := by
  have hreceive := safety_receiveRequest s f.port f.station f.code f.body
    (fun s => safety_judgeCode s f.contacts f.port f.code f.body)
  rcases exec_request h s with he | he
  · rw [he]; exact .next hreceive
  · rw [he]; exact .concluded hreceive

theorem safety_loopOpening : SafetyKeptBy s (exec .loopOpening s) := by
  cases h : s.safety.state with
  | armed => rw [exec_loopOpening_armed h]; exact .concluded (safety_trip s h)
  | tripped => rw [exec_loopOpening_tripped h]; exact .stay s
  | restoring => rw [exec_loopOpening_restoring h]; exact .next (safety_setSafety s (by decide) (by rw [h]; decide) _ _)

theorem safety_loopClosing : SafetyKeptBy s (exec .loopClosing s) := by
  by_cases h : s.safety.state = .tripped
  · rw [exec_loopClosing_tripped h]; exact .next (safety_setSafety s (by decide) (by rw [h]; decide) _ _)
  · rw [exec_loopClosing_idle h]; exact .stay s

/-- Every command that is no request row keeps the law. -/
theorem safety_event {c : Instr} (h : requestOf c = none) : SafetyKeptBy s (exec c s) := by
  cases c with
  | frameDiscarded q => exact .ite (.next (safety_modifyPort s q _)) (.stay s)
  | lengthDiscard q => exact .ite (.next (safety_modifyPort s q _)) (.stay s)
  | characterGapTimeout q => exact .next (safety_discardFrame s q)
  | characterError q => exact .next (safety_discardFrame s q)
  | answerSent q =>
    simp only [exec, execAnswerSent]
    split
    · exact .next (safety_modifyPort s q _)
    · exact .stay s
    · exact .stay s
  | reset c loopClosed keyOn => exact .next (safety_startUp s c loopClosed keyOn)
  | loopOpening => exact safety_loopOpening s
  | loopClosing => exact safety_loopClosing s
  | restoreTimerExpiry =>
    simp only [exec, execRestoreTimerExpiry]
    split
    · exact .concluded ((safety_advanceTo s _).trans (safety_restore _))
    · exact .stay s
  | keyChange => exact .next (.of_eq rfl rfl rfl)
  | routineTimerExpiry =>
    have hrearm : KeepsSafety s (rearmRoutine (advanceTo (s.seq.routineDue * 1000) s)) := .of_eq rfl rfl rfl
    exact .ite (.next hrearm) (.next ((hrearm.trans (safety_setSeq _ _)).trans (safety_startNext _)))
  | sweepStart => exact .next (safety_startNext s)
  | channelBurstComplete v =>
    simp only [exec, execChannelBurstComplete]
    split
    · exact .ite (.next (safety_setSeq s _)) (.stay s)
    · exact .stay s
  | sweepComplete v =>
    simp only [exec, execSweepComplete]
    split
    · exact .ite (.concluded (safety_completeSweep s _ _ _)) (.stay s)
    · exact .stay s
  | declaration p c =>
    exact .ite (.concluded ((acts_countAbnormal s p c).keepsSafety (keeps_countAbnormal s p c))) (.stay s)
  | suspicionAbandoned p => exact .ite (.acts (acts_holdSuspicion s p) (keeps_holdSuspicion s p)) (.stay s)
  | recheckTimerExpiry p =>
    exact .ite (.concluded ((acts_recheckExpired s p).keepsSafety (keeps_recheckExpired s p))) (.stay s)
  | trialSuccess p => exact .ite (.acts (acts_confirmTrial s p) (keeps_confirmTrial s p)) (.stay s)
  | reportedRecovery p => exact .ite (.acts (acts_confirmRecovery s p) (keeps_confirmRecovery s p)) (.stay s)
  | residualDebounceReached p =>
    exact .ite (.concluded ((acts_countResidual s p).keepsSafety (keeps_countResidual s p))) (.stay s)
  | leakageAlarmEntry l => exact .ite (.next (safety_takeLeakage s _)) (.stay s)
  | leakageAlarmClear l => exact .ite (.next (safety_takeLeakage s _)) (.stay s)
  | settleTimerExpiry =>
    simp only [exec, execSettleTimerExpiry]
    split
    · exact .next ((safety_advanceTo s _).trans (safety_enterMeasuring _))
    · exact .stay s
  | batchStart => exact .acts (acts_formBatch s) (keeps_formBatch s)
  | bypassSettleExpiry =>
    simp only [exec, execBypassSettleExpiry]
    split
    · exact .ite (.next (.of_eq rfl rfl rfl)) (.stay s)
    · exact .stay s
  | coilPulseEnd =>
    simp only [exec, execCoilPulseEnd]
    split
    · exact .ite (.next (.of_eq rfl rfl rfl)) (.ite (.next (.of_eq rfl rfl rfl)) (.stay s))
    · exact .stay s
  | nonOverlapExpiry =>
    simp only [exec, execNonOverlapExpiry]
    split
    · exact .ite (.next (.of_eq rfl rfl rfl)) (.stay s)
    · exact .stay s
  | batchCompletion c =>
    simp only [exec, execBatchCompletion]
    split
    · exact .ite (.concluded ((safety_advanceTo s _).trans
        ((acts_completeBatch _ c _).keepsSafety (keeps_completeBatch _ c _)))) (.stay s)
    · exact .stay s
  | hourlyRatioMark =>
    have hsnapshot : KeepsSafety s (snapshotRatios (advanceTo (s.nextHour * 1000) s)) := .of_eq rfl rfl rfl
    exact .concluded (hsnapshot.trans (safety_markRetained _))
  | saveWriteStart =>
    simp only [exec, execSaveWriteStart]
    split
    · exact .next (safety_startWrite s)
    · exact .stay s
  | saveComplete good =>
    simp only [exec, execSaveComplete]
    split
    · exact .next ((safety_endSave s _ _ good).trans (safety_startWrite _))
    · exact .stay s
  | retainedWriteStart =>
    simp only [exec, execRetainedWriteStart]
    split
    · exact .next (safety_startWrite s)
    · exact .stay s
  | retainedWriteComplete good =>
    simp only [exec, execRetainedWriteComplete]
    split
    · exact .next ((safety_endRetained s _ _ good).trans (safety_startWrite _))
    · exact .stay s
  | characterReceived q char c => exact .concluded (safety_takeChar s c q char)
  | unknownRequestCode q station code body =>
    have hknown : (Request.ofCode code).isSome = true := by
      by_contra hk
      rw [requestOf, if_neg hk] at h
      cases h
    simp only [exec, execUnknownRequestCode, if_pos hknown]
    exact .stay s
  | _ => cases h

end

/-- Settles O54: the trip, the return to ARMED, the role changes and the start-up place and remove SAFETY as the law
asks, and all else leaves it. -/
theorem safetyHeldKept : Obligations.SafetyHeldKept := by
  intro c s t hs he
  cases hc : requestOf c with
  | some f => exact (safety_request s hc t he).kept hs
  | none => exact (safety_event s hc t he).kept hs

end Sys2Proof.Machine
end

section
/-! PROOFS. The laws of the Locating Walk (R137 to R146) in the middle of an event: the two forms of a state that has them,
and what ends a walk, moves it on and starts one. -/

namespace Sys2Proof.Machine

/-! ### A walk that runs, and none -/

/-- LOCATE is held nowhere. -/
def Unlocated (s : State) : Prop := ∀ p, (s.pos p).holds.locate = false

/-- A walk runs at a candidate: the unit is ARMED, and LOCATE is held by the candidate alone, in the states of a step that
ask for it (R137, R146). -/
structure WalkAt (p : Pos) (s : State) : Prop where
  candidate : s.walk.candidate = some p
  armed : s.safety.state = .armed
  locate : ∀ j, (s.pos j).holds.locate = true ↔ s.walk.state.locating = true ∧ j = p

theorem Unlocated.of_pos {s t : State} (hs : Unlocated s) (hpos : ∀ p, t.pos p = s.pos p) : Unlocated t :=
  fun p => by rw [hpos]; exact hs p

theorem WalkAt.running {p : Pos} {s : State} (h : WalkAt p s) : s.walk.state ≠ .idle :=
  ((candidate_eq_some_iff _ p).1 h.candidate).1

theorem WalkAt.elsewhere {p j : Pos} {s : State} (h : WalkAt p s) (hj : j ≠ p) : (s.pos j).holds.locate = false :=
  Bool.eq_false_iff.2 (fun hl => hj ((h.locate j).1 hl).2)

theorem WalkAt.unlocated {p : Pos} {s : State} (h : WalkAt p s) (hstate : s.walk.state.locating = false) :
    Unlocated s :=
  fun j => Bool.eq_false_iff.2 (fun hl => Bool.noConfusion (hstate.symm.trans ((h.locate j).1 hl).1))

/-- Where no LOCATE is held, a walk may run in the states that ask for none. -/
theorem Unlocated.walkAt {p : Pos} {s : State} (h : Unlocated s) (hcandidate : s.walk.candidate = some p)
    (harmed : s.safety.state = .armed) (hstate : s.walk.state.locating = false) : WalkAt p s :=
  ⟨hcandidate, harmed, fun j => by simp [h j, hstate]⟩

theorem WalkAt.walkLaws {p : Pos} {s : State} (h : WalkAt p s) : WalkLaws s := by
  refine ⟨fun _ => by rw [h.candidate]; rfl, fun j => ?_, fun _ => h.armed⟩
  rw [h.locate, h.candidate, Option.some.injEq, eq_comm (a := j)]

theorem Unlocated.walkLaws {s : State} (h : Unlocated s) (hidle : s.walk.state = .idle) : WalkLaws s := by
  refine ⟨fun hr => absurd hidle hr, fun j => ?_, fun hr => absurd hidle hr⟩
  simp [h j, hidle, WalkState.locating]

theorem WalkLaws.walkAt {s : State} (hs : WalkLaws s) {p : Pos} (hp : s.walk.candidate = some p) : WalkAt p s := by
  obtain ⟨-, hlocate, harmed⟩ := hs
  refine ⟨hp, harmed ((candidate_eq_some_iff _ p).1 hp).1, fun j => ?_⟩
  rw [hlocate, hp, Option.some.injEq, eq_comm (a := p)]

theorem WalkLaws.unlocated {s : State} (hs : WalkLaws s) (hstate : s.walk.state.locating = false) : Unlocated s := by
  obtain ⟨-, hlocate, -⟩ := hs
  exact fun j => Bool.eq_false_iff.2 (fun hl => Bool.noConfusion (hstate.symm.trans ((hlocate j).1 hl).1))

theorem WalkLaws.unlocated_idle {s : State} (hs : WalkLaws s) (hidle : s.walk.state = .idle) : Unlocated s :=
  hs.unlocated (by rw [hidle]; rfl)

/-- While a walk runs it has a candidate (Table 8-2). -/
theorem WalkLaws.exists_walkAt {s : State} (hs : WalkLaws s) (hrun : s.walk.state ≠ .idle) : ∃ p, WalkAt p s := by
  obtain ⟨p, hp⟩ := Option.isSome_iff_exists.1 (hs.1 hrun)
  exact ⟨p, hs.walkAt hp⟩

/-! ### The walk's ends and moves (R138 to R144) -/

/-- An ended walk leaves LOCATE nowhere (R144). -/
theorem walkLaws_endWalk {s : State} (h : Unlocated s) (o : WalkOutcome) (f : Option Pos) : WalkLaws (endWalk o f s) :=
  Unlocated.walkLaws (h.of_pos (fun _ => rfl)) rfl

@[simp] theorem requestLocate_walk (s : State) : (requestLocate s).walk = s.walk := by
  unfold requestLocate
  split
  · rfl
  · simp

/-- A walk goes on from a step that has left LOCATE nowhere, or it ends (R139, R143). -/
theorem walkLaws_nextCandidate {s : State} (h : Unlocated s) (harmed : s.safety.state = .armed) :
    WalkLaws (nextCandidate s) := by
  unfold nextCandidate
  split
  · next hlt =>
    have hfree : Unlocated (requestLocate { s with walk :=
        { s.walk with index := s.walk.index + 1, state := .baseline, baseline := none, settleDue := none } }) :=
      h.of_pos (requestLocate_pos _)
    refine (hfree.walkAt (p := s.walk.candidates[s.walk.index]) ?_ ?_ ?_).walkLaws
    · rw [requestLocate_walk]
      exact List.getElem?_eq_getElem hlt
    · rw [(acts_requestLocate _).safety]; exact harmed
    · rw [requestLocate_walk]; rfl
  · exact walkLaws_endWalk h _ _

/-- A walk that starts in ARMED, with none running (R135, R137, R138). -/
theorem walkLaws_startWalk {s : State} (hs : WalkLaws s) (hidle : s.walk.state = .idle)
    (harmed : s.safety.state = .armed) (o : WalkOrigin) : WalkLaws (startWalk o s) :=
  walkLaws_nextCandidate ((hs.unlocated_idle hidle).of_pos (fun _ => rfl)) harmed

/-- The test of RECLOSING finds no LOCATE held (R143). -/
theorem walkLaws_reclosingTest {s : State} (hs : WalkLaws s) (p : Pos) : WalkLaws (reclosingTest p s) := by
  unfold reclosingTest
  split
  · next h =>
    obtain ⟨hstate, hp, -⟩ := h
    exact walkLaws_nextCandidate (hs.unlocated (by rw [hstate]; rfl)) (hs.walkAt hp).armed
  · exact hs

/-- The states of a step change and its candidate stands. -/
theorem WalkAt.moved {p : Pos} {s : State} (h : WalkAt p s) {w : Walk} (hstate : w.state ≠ .idle)
    (hindex : w.index = s.walk.index) (hlist : w.candidates = s.walk.candidates)
    (hlocating : w.state.locating = s.walk.state.locating) : WalkAt p { s with walk := w } :=
  ⟨candidate_congr h.candidate hstate hindex hlist, h.armed, fun j => by rw [hlocating]; exact h.locate j⟩

/-- OPENING to SETTLING (R140). -/
theorem WalkAt.enterSettling {p : Pos} {s : State} (h : WalkAt p s) (hstate : s.walk.state = .opening) :
    WalkAt p (enterSettling s) := h.moved nofun rfl rfl (by rw [hstate]; rfl)

/-- A walk that runs takes LOCATE from its candidate as it is told of a trip (R146). -/
theorem abandonWalk_running {s : State} {p : Pos} (hp : s.walk.candidate = some p) :
    abandonWalk s = endWalk .abandoned none (changeHolder .locate false none [p] s) := by
  have hrelease : releaseCandidate s = changeHolder .locate false none [p] s := by rw [releaseCandidate, hp]
  rw [abandonWalk, if_neg ((candidate_eq_some_iff _ p).1 hp).1, hrelease]

/-! ### LOCATE put and taken away (R85, R89) -/

theorem put_has (h k : Holder) (b : Bool) (hs : HoldSet) : (hs.put h b).has k = if h = k then b else hs.has k := by
  cases h <;> cases k <;> rfl

/-- A hold change reaches another holder than FAULT where it puts that holder itself. -/
theorem changeHolder_has (s : State) (h : Holder) (b : Bool) (r : Option Reason) {ps : List Pos} (hps : ps.Nodup)
    {k : Holder} (hk : k ≠ .fault) (p : Pos) :
    ((changeHolder h b r ps s).pos p).holds.has k =
      if h = k ∧ p ∈ ps ∧ (b = true → s.role p = .switched) then b else (s.pos p).holds.has k := by
  by_cases hp : p ∈ ps ∧ alters h b s p = true
  · have hput : ((changeHolder h b r ps s).pos p).holds.has k = ((s.pos p).holds.put h b).has k := by
      by_cases hi : interrupts h b s p = true
      · obtain ⟨rfl, -⟩ := (interrupts_iff s h b p).1 hi
        rw [changeHolder_pos_interrupted hps hp hi]
        exact (put_has .fault k true _).trans (if_neg (Ne.symm hk))
      · rw [changeHolder_pos_put hps hp hi]; rfl
    have hrole := ((alters_iff s h b p).1 hp.2).2
    rw [hput, put_has]
    exact if_congr (and_iff_left ⟨hp.1, hrole⟩).symm rfl rfl
  · rw [changeHolder_pos_unchanged hps hp]
    split
    · next hc =>
      obtain ⟨rfl, hmem, hrole⟩ := hc
      by_contra hne
      exact hp ⟨hmem, (alters_iff s h b p).2 ⟨hne, hrole⟩⟩
    · rfl

/-- LOCATE after it is put at one position or taken out there. -/
theorem changeLocate_locate (s : State) (b : Bool) (p j : Pos) :
    ((changeHolder .locate b none [p] s).pos j).holds.locate =
      if j = p ∧ (b = true → s.role j = .switched) then b else (s.pos j).holds.locate := by
  refine (changeHolder_has s .locate b none (List.nodup_singleton p) (k := .locate) (by decide) j).trans ?_
  simp only [true_and, List.mem_singleton, HoldSet.has]

/-- LOCATE taken out at the only position that may hold it. -/
theorem unlocated_released {s : State} {p : Pos} (h : ∀ j, j ≠ p → (s.pos j).holds.locate = false) :
    Unlocated (changeHolder .locate false none [p] s) := by
  intro j
  rw [changeLocate_locate]
  split
  · rfl
  · next hj => exact h j (fun hjp => hj ⟨hjp, nofun⟩)

theorem WalkAt.unlocated_released {s : State} {p : Pos} (h : WalkAt p s) :
    Unlocated (changeHolds .locate false none [p] s) :=
  (Machine.unlocated_released (fun _ => h.elsewhere)).of_pos (changeHolds_pos s _ _ _ _)

/-- LOCATE put at the candidate of a step that enters OPENING (R139, R140). -/
theorem Unlocated.walkAt_inserted {s : State} {p : Pos} (h : Unlocated s) (hcandidate : s.walk.candidate = some p)
    (harmed : s.safety.state = .armed) (hstate : s.walk.state.locating = true) (hrole : s.role p = .switched) :
    WalkAt p (changeHolder .locate true none [p] s) := by
  refine ⟨by rw [changeHolder_walk]; exact hcandidate, by rw [(acts_changeHolder s _ _ _ _).safety]; exact harmed,
    fun j => ?_⟩
  rw [changeLocate_locate, changeHolder_walk, hstate]
  by_cases hj : j = p
  · subst hj; simp [hrole]
  · simp [hj, h j]

end Sys2Proof.Machine
end

section
/-! PROOFS. The laws of the Locating Walk across every operation: `WalkStands` for the operations that touch nothing the
laws speak of, `KeepsWalk` for those that may move the walk on or end it. -/

namespace Sys2Proof.Machine

/-- What the laws of the walk speak of is as it was: the walk record, the safety state, and LOCATE at every position. -/
structure WalkStands (s t : State) : Prop where
  walk : t.walk = s.walk
  safety : t.safety.state = s.safety.state
  locate : ∀ p, (t.pos p).holds.locate = (s.pos p).holds.locate

theorem WalkStands.refl (s : State) : WalkStands s s := ⟨rfl, rfl, fun _ => rfl⟩

theorem WalkStands.trans {s t u : State} (h : WalkStands s t) (k : WalkStands t u) : WalkStands s u :=
  ⟨k.walk.trans h.walk, k.safety.trans h.safety, fun p => (k.locate p).trans (h.locate p)⟩

theorem WalkStands.foldl {α : Type} (f : State → α → State) (h : ∀ s a, WalkStands s (f s a)) (l : List α) (s : State) :
    WalkStands s (l.foldl f s) := by
  induction l generalizing s with
  | nil => exact .refl s
  | cons a l ih => exact (h s a).trans (ih _)

theorem WalkStands.of_eq {s t : State} (hwalk : t.walk = s.walk) (hsafety : t.safety = s.safety)
    (hpositions : t.positions = s.positions) : WalkStands s t :=
  ⟨hwalk, by rw [hsafety], fun p => by rw [pos_eq_of_positions hpositions]⟩

theorem WalkStands.walkAt {s t : State} (h : WalkStands s t) {p : Pos} (hs : WalkAt p s) : WalkAt p t :=
  ⟨by rw [h.walk]; exact hs.candidate, by rw [h.safety]; exact hs.armed,
    fun j => by rw [h.locate, h.walk]; exact hs.locate j⟩

/-- An operation keeps the laws of the walk. -/
structure KeepsWalk (s t : State) : Prop where
  kept : WalkLaws s → WalkLaws t

theorem KeepsWalk.refl (s : State) : KeepsWalk s s := ⟨id⟩

theorem KeepsWalk.trans {s t u : State} (h : KeepsWalk s t) (k : KeepsWalk t u) : KeepsWalk s u := ⟨k.kept ∘ h.kept⟩

theorem KeepsWalk.foldl {α : Type} (f : State → α → State) (h : ∀ s a, KeepsWalk s (f s a)) (l : List α) (s : State) :
    KeepsWalk s (l.foldl f s) := by
  induction l generalizing s with
  | nil => exact .refl s
  | cons a l ih => exact (h s a).trans (ih _)

theorem WalkStands.keeps {s t : State} (h : WalkStands s t) : KeepsWalk s t := by
  refine ⟨fun ⟨hcandidate, hlocate, harmed⟩ => ⟨?_, fun p => ?_, ?_⟩⟩
  · rw [h.walk]; exact hcandidate
  · rw [h.locate, h.walk]; exact hlocate p
  · rw [h.walk, h.safety]; exact harmed

theorem KeepsWalk.of_eq {s t : State} (hwalk : t.walk = s.walk) (hsafety : t.safety = s.safety)
    (hpositions : t.positions = s.positions) : KeepsWalk s t := (WalkStands.of_eq hwalk hsafety hpositions).keeps

section
variable (s : State)

/-! ### What touches nothing the laws speak of -/

/-- One position changed without a change of LOCATE. -/
theorem walkStands_modify (p : Pos) {f : PosState → PosState}
    (h : (f (s.pos p)).holds.locate = (s.pos p).holds.locate) : WalkStands s (s.modify p f) := by
  refine ⟨rfl, rfl, fun j => ?_⟩
  rw [modify_pos]
  split
  · next hj => subst hj; exact h
  · rfl

theorem walkStands_setQual (p : Pos) (q : QualRecord) : WalkStands s (setQual p q s) := walkStands_modify s p rfl

theorem walkStands_modifyQual (p : Pos) (f : QualRecord → QualRecord) : WalkStands s (modifyQual p f s) :=
  walkStands_setQual s p _

theorem walkStands_setResidual (p : Pos) (n : Nat) : WalkStands s (setResidual p n s) := walkStands_modify s p rfl

theorem walkStands_setRatio (p : Pos) (n : Nat) : WalkStands s (setRatio p n s) := walkStands_modify s p rfl

theorem walkStands_setGate (p : Pos) (b : Bool) : WalkStands s (setGate p b s) := walkStands_modify s p rfl

theorem walkStands_setCondition (p : Pos) (c : Condition) : WalkStands s (setCondition p c s) := by
  refine ⟨setCondition_walk s p c, by simp, fun j => ?_⟩
  rw [setCondition_pos]
  split
  · next hj => rw [hj]
  · rfl

theorem walkStands_emit (k : NoticeKind) (e : Edge) (p : Option Pos) (d : Detail) : WalkStands s (emit k e p d s) :=
  .of_eq rfl rfl rfl

theorem walkStands_markRetained : WalkStands s (markRetained s) := .of_eq (by simp) (by simp) (by simp)

theorem walkStands_removeOrder (p : Pos) : WalkStands s (removeOrder p s) := .of_eq rfl rfl rfl

theorem walkStands_takeTarget (p : Pos) : WalkStands s (takeTarget p s) := .of_eq (by simp) (by simp) (by simp)

theorem walkStands_takeTargets (ps : List Pos) : WalkStands s (takeTargets ps s) :=
  .foldl _ (fun s p => walkStands_takeTarget s p) ps s

theorem walkStands_modifyPort (q : Port) (f : PortState → PortState) : WalkStands s (modifyPort q f s) :=
  .of_eq rfl rfl rfl

theorem walkStands_setSeq (x : Sequencer) : WalkStands s { s with seq := x } := .of_eq rfl rfl rfl

theorem walkStands_startNext : WalkStands s (startNext s) := .of_eq (by simp) (by simp) (by simp)

theorem walkStands_advanceTo (t : Nat) : WalkStands s (advanceTo t s) := .of_eq rfl rfl rfl

theorem walkStands_startWrite : WalkStands s (startWrite s) := .of_eq (by simp) (by simp) (by simp)

theorem walkStands_latch (p : Pos) : WalkStands s (latch p s) :=
  (walkStands_modifyQual s p _).trans (walkStands_markRetained _)

theorem walkStands_openReport (p : Pos) : WalkStands s (openReport p s) := by
  unfold openReport
  split
  · split
    · exact walkStands_modifyQual s p _
    · exact walkStands_latch s p
  · exact .refl s

theorem walkStands_emitCleared (p : Pos) (q : QualRecord) : WalkStands s (emitCleared p q s) := by
  unfold emitCleared
  split
  · exact walkStands_emit s _ _ _ _
  · exact .refl s

theorem walkStands_emitRemoved (p : Pos) (h : Holder) (old : HoldSet) : WalkStands s (emitRemoved p h old s) := by
  unfold emitRemoved
  split
  · exact walkStands_emit s _ _ _ _
  · exact .refl s

theorem walkStands_markUnlatched (q : QualRecord) : WalkStands s (markUnlatched q s) := by
  unfold markUnlatched
  split
  · exact walkStands_markRetained s
  · exact .refl s

theorem walkStands_holdSuspicion (p : Pos) : WalkStands s (holdSuspicion p s) := by
  unfold holdSuspicion
  split
  · exact walkStands_modifyQual s p _
  · exact walkStands_modifyQual s p _

theorem walkStands_recovered (p : Pos) : WalkStands s (recovered p s) :=
  (walkStands_setQual s p _).trans (walkStands_emit _ _ _ _ _)

theorem walkStands_confirmTrial (p : Pos) : WalkStands s (confirmTrial p s) := by
  unfold confirmTrial
  split
  · exact walkStands_recovered s p
  · exact walkStands_modifyQual s p _

theorem walkStands_confirmRecovery (p : Pos) : WalkStands s (confirmRecovery p s) := by
  unfold confirmRecovery
  split
  · exact walkStands_recovered s p
  · exact walkStands_modifyQual s p _

theorem walkStands_clearRecord (p : Pos) : WalkStands s (clearRecord p s) :=
  ((walkStands_setQual s p _).trans (walkStands_setResidual _ p 0)).trans (walkStands_emitCleared _ p _)

theorem walkStands_learn (r : SweepRecord) : WalkStands s (learn r s) := ⟨rfl, rfl, fun p => by rw [learn_pos]⟩

theorem walkStands_emitVerified (p : Pos) (a b : Condition) : WalkStands s (emitVerified p a b s) := by
  unfold emitVerified
  split
  · exact walkStands_emit s _ _ _ _
  · split
    · exact walkStands_emit s _ _ _ _
    · split
      · exact walkStands_emit s _ _ _ _
      · exact .refl s

theorem walkStands_setAlarm (a : AlarmState) (n : Nat) : WalkStands s (setAlarm a n s) := .of_eq rfl rfl rfl

theorem walkStands_fall (n : Nat) : WalkStands s (fall n s) := by
  unfold fall
  split
  · exact (walkStands_setAlarm s _ _).trans (walkStands_emit _ _ _ _ _)
  · exact walkStands_setAlarm s _ _

theorem walkStands_setMoving (os : List BatchOrder) : WalkStands s (setMoving os s) :=
  .foldl _ (fun s _ => (walkStands_setCondition s _ _).trans (walkStands_setGate _ _ _)) os s

theorem walkStands_formBatch : WalkStands s (formBatch s) := by
  have hdrive (d : Drive) : WalkStands s { s with drive := d } := .of_eq rfl rfl rfl
  unfold formBatch
  split
  · exact (hdrive _).trans (walkStands_setMoving _ _)
  · exact .refl s

theorem walkStands_conclude (s₀ : State) : WalkStands s (conclude s₀ s) := by
  have hbatch : WalkStands s (formBatchAfter s₀ s) := by
    unfold formBatchAfter
    split
    · exact walkStands_formBatch s
    · exact .refl s
  unfold conclude startWriteAfter
  split
  · exact hbatch
  · exact hbatch.trans (walkStands_startWrite _)

theorem walkStands_endRetained (k : CopyName) (c : Copy Retained) (good : Bool) :
    WalkStands s (endRetained k c good s) := by
  have hstore (x : Store) : WalkStands s { s with store := x } := .of_eq rfl rfl rfl
  cases good with
  | true => exact hstore _
  | false => exact (hstore _).trans (walkStands_markRetained _)

theorem walkStands_discardFrame (q : Port) : WalkStands s (discardFrame q s) := by
  unfold discardFrame
  split
  · exact walkStands_modifyPort s q _
  · exact .refl s
  · exact .refl s

/-! ### Hold changes (R84 to R89, R143) -/

/-- A change of another holder leaves LOCATE, and by itself the walk (R85). -/
theorem walkStands_changeHolder {h : Holder} (hh : h ≠ .locate) (b : Bool) (r : Option Reason) {ps : List Pos}
    (hps : ps.Nodup) : WalkStands s (changeHolder h b r ps s) := by
  refine ⟨changeHolder_walk h b r ps s, by rw [(acts_changeHolder s h b r ps).safety], fun p => ?_⟩
  exact (changeHolder_has s h b r hps (k := .locate) (by decide) p).trans (if_neg (fun hc => hh hc.1))

theorem walk_reclosingTest (p : Pos) : KeepsWalk s (reclosingTest p s) := ⟨fun hs => walkLaws_reclosingTest hs p⟩

theorem walk_reclosingAfter (h : Holder) (b : Bool) (ps : List Pos) (s₀ : State) :
    KeepsWalk s (reclosingAfter h b ps s₀ s) := by
  unfold reclosingAfter
  split
  · split
    · exact walk_reclosingTest s _
    · exact .refl s
  · exact .refl s

theorem walk_changeHolds {h : Holder} (hh : h ≠ .locate) (b : Bool) (r : Option Reason) {ps : List Pos}
    (hps : ps.Nodup) : KeepsWalk s (changeHolds h b r ps s) :=
  (walkStands_changeHolder s hh b r hps).keeps.trans (walk_reclosingAfter _ h b ps s)

theorem fault_ne_locate : Holder.fault ≠ .locate := by decide

/-- FAULT put at one position or taken out there. -/
theorem walk_changeFault (b : Bool) (r : Option Reason) (p : Pos) : KeepsWalk s (changeHolds .fault b r [p] s) :=
  walk_changeHolds s fault_ne_locate b r (List.nodup_singleton p)

/-! ### Condition reports (R68, R74, R88, R116, R118) -/

theorem walk_faultReport (p : Pos) : KeepsWalk s (faultReport p s) := by
  unfold faultReport
  split
  · exact (walkStands_latch s p).keeps
  · exact (walkStands_latch s p).keeps
  · exact (walkStands_latch s p).keeps.trans (walk_changeFault _ _ _ p)
  · exact .refl s

theorem walk_qualReport (p : Pos) (c : Condition) : KeepsWalk s (qualReport p c s) := by
  cases c with
  | closed => exact (walkStands_setResidual s p 0).keeps
  | opened => exact (walkStands_openReport s p).keeps
  | moving => exact .refl s
  | jammedClosed => exact walk_faultReport s p
  | jammedOpen => exact walk_faultReport s p
  | conductingOpen => exact walk_faultReport s p
  | absent => exact .refl s

/-- A step that ends SKIPPED_JAMMED takes LOCATE from its candidate before the walk goes on (R140). -/
theorem WalkAt.walkLaws_skipJammed {s : State} {p : Pos} (h : WalkAt p s) : WalkLaws (skipJammed p s) :=
  walkLaws_nextCandidate (h.unlocated_released.of_pos (fun _ => rfl))
    ((acts_changeHolds s _ _ _ _).safety ▸ h.armed)

theorem walk_walkReport (p : Pos) (c : Condition) : KeepsWalk s (walkReport p c s) := by
  unfold walkReport
  split
  · next hp =>
    split
    · next hstate => exact ⟨fun hs => ((hs.walkAt hp).enterSettling hstate).walkLaws⟩
    · exact ⟨fun hs => (hs.walkAt hp).walkLaws_skipJammed⟩
    · exact walk_reclosingTest s p
    · exact .refl s
  · exact .refl s

theorem walk_handOn (p : Pos) (c : Condition) : KeepsWalk s (handOn p c s) :=
  (walk_qualReport s p c).trans (walk_walkReport _ p c)

theorem walk_conditionReport (p : Pos) (c : Condition) : KeepsWalk s (conditionReport p c s) :=
  (walkStands_takeTarget s p).keeps.trans (walk_handOn _ p c)

theorem walk_conductingOpenReport (p : Pos) : KeepsWalk s (conductingOpenReport p s) := by
  unfold conductingOpenReport
  split
  · exact (((walkStands_setCondition s p _).trans (walkStands_removeOrder _ p)).trans
      (walkStands_emit _ _ _ _ _)).keeps.trans (walk_conditionReport _ p _)
  · exact .refl s

theorem walk_clearSwitch (c : Contacts) (p : Pos) : KeepsWalk s (clearSwitch c p s) := by
  unfold clearSwitch
  split
  · exact (((walkStands_setCondition s p _).trans (walkStands_setResidual _ p 0)).trans
      (walkStands_emit _ _ _ _ _)).keeps.trans (walk_conditionReport _ p _)
  · exact .refl s

/-- A batch completes: its reports are handed on with everything else standing (R112). -/
theorem walk_completeBatch (c : Contacts) (b : Batch) : KeepsWalk s (completeBatch c b s) := by
  have hdrive : WalkStands s { s with drive := { s.drive with batch := none } } := .of_eq rfl rfl rfl
  exact ((((hdrive.trans
    (.foldl _ (fun s _ => (walkStands_setCondition s _ _).trans (walkStands_setGate _ _ _)) _ _)).trans
    (walkStands_takeTargets _ _)).trans (.foldl _ (fun s _ => walkStands_emitVerified s _ _ _) _ _)).keeps.trans
    (.foldl _ (fun s _ => walk_handOn s _ _) _ _)).trans (walkStands_formBatch _).keeps

/-! ### The Fault Qualifier's share of a completion (R61 to R80) -/

theorem walk_declaredStanding (p : Pos) : KeepsWalk s (declaredStanding p s) := by
  unfold declaredStanding
  split
  · exact (walkStands_openReport s p).keeps
  · exact walk_faultReport s p
  · exact walk_faultReport s p
  · exact walk_faultReport s p
  · exact .refl s

theorem walk_insertFault (p : Pos) (c : Abnormal) : KeepsWalk s (insertFault p c s) :=
  ((walkStands_changeHolder s fault_ne_locate _ _ (List.nodup_singleton p)).trans
    (walkStands_emit _ _ _ _ _)).keeps.trans (walk_reclosingAfter _ _ _ _ _)

theorem walk_declare (p : Pos) (c : Abnormal) : KeepsWalk s (declare p c s) := by
  unfold declare
  split
  · exact ((walkStands_modifyQual s p _).keeps.trans (walk_insertFault _ p c)).trans (walk_declaredStanding _ p)
  · exact ((walkStands_modifyQual s p _).trans (walkStands_emit _ _ _ _ _)).keeps
  · exact .refl s

theorem walk_countAbnormal (p : Pos) (c : Abnormal) : KeepsWalk s (countAbnormal p c s) := by
  unfold countAbnormal
  split
  · exact (walkStands_modifyQual s p _).keeps.trans (walk_declare _ p c)
  · exact (walkStands_modifyQual s p _).keeps

theorem walk_recheckExpired (p : Pos) : KeepsWalk s (recheckExpired p s) := by
  unfold recheckExpired
  split
  · exact (walkStands_latch s p).keeps
  · split
    · exact (walkStands_modifyQual s p _).keeps.trans (walk_changeFault _ _ _ p)
    · exact (walkStands_modifyQual s p _).keeps

theorem walk_waitingSweep (p : Pos) : KeepsWalk s (waitingSweep p s) := by
  unfold waitingSweep
  split
  · split
    · exact walk_recheckExpired s p
    · exact (walkStands_modifyQual s p _).keeps
  · exact .refl s

theorem walk_takeClass (p : Pos) (cls : Class) (c : Condition) : KeepsWalk s (takeClass p cls c s) := by
  unfold takeClass
  split
  · exact .refl s
  · split
    · exact walk_countAbnormal s p _
    · exact walk_countAbnormal s p _
    · exact (walkStands_modifyQual s p _).keeps
    · exact (walkStands_holdSuspicion s p).keeps
    · exact walk_waitingSweep s p
    · split
      · exact walk_countAbnormal s p _
      · exact .refl s
    · split
      · exact (walkStands_confirmTrial s p).keeps
      · exact .refl s
    · exact (walkStands_confirmRecovery s p).keeps
    · exact (walkStands_modifyQual s p _).keeps
    · exact .refl s

theorem walk_countResidual (p : Pos) : KeepsWalk s (countResidual p s) := by
  unfold countResidual
  split
  · exact (walkStands_setResidual s p _).keeps.trans (walk_conductingOpenReport _ p)
  · exact (walkStands_setResidual s p _).keeps

theorem walk_takeResidual (p : Pos) (cls : Class) (c : Condition) : KeepsWalk s (takeResidual p cls c s) := by
  unfold takeResidual
  split
  · split
    · exact walk_countResidual s p
    · exact .refl s
  · exact (walkStands_setResidual s p 0).keeps
  · exact .refl s

theorem walk_takePosition (r : SweepRecord) (p : Pos) : KeepsWalk s (takePosition r p s) :=
  (walk_takeClass s p _ _).trans (walk_takeResidual _ p _ _)

theorem walk_clearFault (p : Pos) : KeepsWalk s (clearFault p s) := by
  unfold clearFault
  split
  · exact .refl s
  · exact ((((walkStands_setQual s p _).trans
      (walkStands_changeHolder _ fault_ne_locate _ _ (List.nodup_singleton p))).trans
      (walkStands_emitCleared _ p _)).trans (walkStands_markUnlatched _ _)).keeps.trans (walk_reclosingAfter _ _ _ _ _)

/-! ### The leakage alarm (R131 to R135) -/

theorem autoWalkStarts_iff :
    s.autoWalkStarts = true ↔ s.settings.autoWalk = true ∧ s.walk.state = .idle ∧ s.safety.state = .armed := by
  simp [State.autoWalkStarts, and_assoc]

/-- An alarm entry starts a walk in ARMED alone, where none runs (R135). -/
theorem walk_rise (n : Nat) : KeepsWalk s (rise n s) := by
  have hset := (walkStands_setAlarm s .alarm 0).trans (walkStands_emit _ .leakage .set none .absent)
  unfold rise enterAlarm
  split
  · dsimp only
    split
    · next hauto =>
      obtain ⟨-, hidle, harmed⟩ := (autoWalkStarts_iff _).1 hauto
      exact hset.keeps.trans ⟨fun hs => walkLaws_startWalk hs hidle harmed _⟩
    · exact hset.keeps
  · exact (walkStands_setAlarm s _ _).keeps

theorem walk_moveAlarm (l : Nat) : KeepsWalk s (moveAlarm l s) := by
  unfold moveAlarm
  split
  · split
    · exact walk_rise s _
    · exact walk_rise s _
    · exact .refl s
    · exact (walkStands_setAlarm s _ _).keeps
  · split
    · split
      · exact .refl s
      · exact (walkStands_setAlarm s _ _).keeps
      · exact (walkStands_fall s _).keeps
      · exact (walkStands_fall s _).keeps
    · exact .refl s

theorem walk_takeLeakage (l : Nat) : KeepsWalk s (takeLeakage l s) :=
  KeepsWalk.trans (t := { s with leakage := { s.leakage with last := l } }) (.of_eq rfl rfl rfl) (walk_moveAlarm _ l)

end

/-! ### The walk's decisions (R78, R139, R142, R146) -/

/-- The BASELINE sweep's decision (R139): where LOCATE is inserted, the candidate is CLOSED, and so SWITCHED. -/
theorem WalkAt.walkLaws_baselineDecision {s : State} {p : Pos} (h : WalkAt p s) (hstate : s.walk.state = .baseline)
    (hrole : (s.pos p).condition = .closed → s.role p = .switched) (l : Nat) : WalkLaws (baselineDecision p l s) := by
  have hfree : Unlocated s := h.unlocated (by rw [hstate]; rfl)
  unfold baselineDecision
  split
  · exact walkLaws_endWalk hfree _ _
  · split
    · exact walkLaws_nextCandidate (hfree.of_pos (fun _ => rfl)) h.armed
    · next hfit =>
      have hclosed : (s.pos p).condition = .closed := not_not.1 (fun hc => hfit (.inl hc))
      have hopening : Unlocated { s with walk := { s.walk with state := .opening, baseline := some l } } := hfree
      exact (walk_reclosingAfter _ _ _ _ _).kept (hopening.walkAt_inserted
        (candidate_congr h.candidate nofun rfl rfl) h.armed rfl (hrole hclosed)).walkLaws

/-- A step that is CONFIRMED: FAULT takes LOCATE's place and the walk ends (R142). -/
theorem WalkAt.walkLaws_confirmDrop {s : State} {p : Pos} (h : WalkAt p s) (hs : HoldsOnSwitched s) (l : Nat) :
    WalkLaws (confirmDrop p l s) := by
  refine walkLaws_endWalk (fun j => ?_) _ _
  rw [groundLatch_pos]
  split
  · split
    · rfl
    · next hrole =>
      have hempty : (s.pos p).holds = HoldSet.empty := (hs p hrole).1
      exact congrArg HoldSet.locate hempty
  · next hj => exact h.elsewhere hj

/-- LOCATE taken from the candidate, and the walk moved into RECLOSING (R142). -/
theorem WalkAt.released {s : State} {p : Pos} (h : WalkAt p s) (hstate : s.walk.state ≠ .reclosing) :
    WalkAt p { changeHolds .locate false none [p] s with
      walk := { (changeHolds .locate false none [p] s).walk with state := .reclosing } } := by
  have hfree : Unlocated { changeHolds .locate false none [p] s with
      walk := { (changeHolds .locate false none [p] s).walk with state := .reclosing } } := h.unlocated_released
  refine hfree.walkAt ?_ ((acts_changeHolds s _ _ _ _).safety ▸ h.armed) rfl
  rw [changeHolds_walk hstate]
  exact candidate_congr h.candidate nofun rfl rfl

/-- A step that is NO_DROP leaves LOCATE nowhere before RECLOSING is tested (R142, R143). -/
theorem WalkAt.walkLaws_enterReclosing {s : State} {p : Pos} (h : WalkAt p s) (hstate : s.walk.state = .measuring)
    (l : Nat) : WalkLaws (enterReclosing p l s) := by
  have hlogged : WalkAt p (appendEntry ⟨p, s.walk.baseline.getD 0, some l, .noDrop⟩ s) := h.moved h.running rfl rfl rfl
  refine walkLaws_reclosingTest (hlogged.released ?_).walkLaws p
  show s.walk.state ≠ .reclosing
  rw [hstate]
  decide

/-- The L of a LOCATE sweep decides on what the isolation laws and the drive laws say of the candidate: it is SWITCHED
where it is CLOSED or holds LOCATE (R139, R142). -/
theorem walk_walkSweep {s : State} (hs : HoldsOnSwitched s) (hd : QueueLaws s) (l : Nat) :
    KeepsWalk s (walkSweep l s) := by
  unfold walkSweep
  split
  · next p hp hstate =>
    exact ⟨fun hw => (hw.walkAt hp).walkLaws_baselineDecision hstate
      (fun hc => hd.switched (by rw [hc]; decide)) l⟩
  · next p hp hstate =>
    refine ⟨fun hw => ?_⟩
    unfold measuringDecision
    split
    · exact (hw.walkAt hp).walkLaws_confirmDrop hs l
    · exact (hw.walkAt hp).walkLaws_enterReclosing hstate l
  · exact .refl s

/-- A walk that is told of a trip leaves LOCATE nowhere, whatever the unit's state has become (R146). -/
theorem walkLaws_abandonWalk {s t : State} (hs : WalkLaws s) (hwalk : t.walk = s.walk)
    (hlocate : ∀ p, (t.pos p).holds.locate = (s.pos p).holds.locate) : WalkLaws (abandonWalk t) := by
  by_cases hidle : t.walk.state = .idle
  · have hfree := hs.unlocated_idle (hwalk ▸ hidle)
    rw [abandonWalk, if_pos hidle]
    exact Unlocated.walkLaws (fun p => (hlocate p).trans (hfree p)) hidle
  · obtain ⟨p, hp⟩ := hs.exists_walkAt (hwalk ▸ hidle)
    rw [abandonWalk_running (hwalk ▸ hp.candidate)]
    exact walkLaws_endWalk (unlocated_released (fun j hj => (hlocate j).trans (hp.elsewhere hj))) _ _

/-! ### The Safety Loop unit (R124 to R126, R128) -/

section
variable (s : State)

/-- A trip ends the walk (R124, R146). -/
theorem walk_trip : KeepsWalk s (trip s) := by
  refine ⟨fun hs => walkLaws_abandonWalk hs ?_ (fun p => ?_)⟩
  · exact changeHolder_walk .safety true none _ (setSafety .tripped none false s)
  · exact (walkStands_changeHolder (setSafety .tripped none false s) (by decide) true none
      (switchedPositions_nodup s)).locate p

/-- Outside ARMED no walk runs, and the unit's state may change (R137). -/
theorem walk_setSafety (h : s.safety.state ≠ .armed) (a : SafetyState) (due : Option Nat) (b : Bool) :
    KeepsWalk s (setSafety a due b s) := by
  refine ⟨fun hs => ?_⟩
  have hidle : s.walk.state = .idle := by
    by_contra hrun
    obtain ⟨p, hp⟩ := hs.exists_walkAt hrun
    exact h hp.armed
  exact Unlocated.walkLaws (hs.unlocated_idle hidle) hidle

theorem walk_restore (h : s.safety.state ≠ .armed) : KeepsWalk s (restore s) :=
  (walk_setSafety s h _ _ _).trans
    (((walkStands_changeHolder _ (by decide) _ _ (List.nodup_finRange 24)).trans
      (walkStands_emit _ _ _ _ _)).keeps.trans (walk_reclosingAfter _ _ _ _ _))

/-- RESET leaves no walk and no LOCATE (R97, R148). -/
theorem walk_startUp (c : Contacts) (loopClosed keyOn : Bool) : KeepsWalk s (startUp c loopClosed keyOn s) := by
  refine KeepsWalk.trans ⟨fun _ => Unlocated.walkLaws (fun p => ?_) rfl⟩
    ((walkStands_takeTargets _ _).trans (walkStands_formBatch _)).keeps
  rw [startState_pos]
  rfl

end

end Sys2Proof.Machine
end

section
/-! PROOFS. The laws of the Locating Walk across requests and events, and that every command keeps them where the isolation
laws and the drive laws hold. -/

namespace Sys2Proof.Machine

section
variable (s : State)

/-! ### Role changes (R8 to R11) -/

/-- A position that holds no LOCATE written anew without one. -/
theorem WalkStands.of_rewritten {s t : State} {p : Pos} (hwalk : t.walk = s.walk) (hsafety : t.safety = s.safety)
    (hother : ∀ j, j ≠ p → t.pos j = s.pos j) (hfree : (s.pos p).holds.locate = false)
    (hstill : (t.pos p).holds.locate = false) : WalkStands s t := by
  refine ⟨hwalk, by rw [hsafety], fun j => ?_⟩
  by_cases hj : j = p
  · rw [hj, hstill, hfree]
  · rw [hother j hj]

/-- A role change away from SWITCHED is refused where LOCATE is held (R8). -/
theorem walk_leaveSwitching {p : Pos} (hfree : (s.pos p).holds.locate = false) (r : Role) :
    KeepsWalk s (leaveSwitching p r s) := by
  have hemptied : WalkStands s ((setCondition p .absent (removeOrder p (setRole p r s))).modify p
      (unswitched s.settings.trialCount s.uptime)) := by
    refine .of_rewritten (setCondition_walk _ p _) (setCondition_safety _ p _) (fun j hj => ?_) hfree ?_
    · rw [modify_pos, if_neg hj, setCondition_pos, if_neg hj]; rfl
    · rw [modify_pos, if_pos rfl]; rfl
  exact ((((hemptied.trans (walkStands_emitRemoved _ p _ _)).trans (walkStands_emitRemoved _ p _ _)).trans
    (walkStands_emitCleared _ p _)).trans (walkStands_markUnlatched _ _)).keeps.trans (walk_walkReport _ p _)

/-- A position that becomes SWITCHED held nothing (R10, R84). -/
theorem walk_enterSwitching (c : Contacts) {p : Pos} (hfree : (s.pos p).holds.locate = false) :
    KeepsWalk s (enterSwitching c p s) := by
  have hstarted : WalkStands s ((setCondition p (readContact c p) (setRole p .switched s)).modify p
      (newlySwitched s.settings.trialCount s.uptime s.safety.state)) := by
    refine .of_rewritten (setCondition_walk _ p _) (setCondition_safety _ p _) (fun j hj => ?_) hfree ?_
    · rw [modify_pos, if_neg hj, setCondition_pos, if_neg hj]; rfl
    · rw [modify_pos, if_pos rfl]; rfl
  rw [enterSwitching_eq]
  exact ((hstarted.trans (walkStands_emitCleared _ p _)).trans (walkStands_takeTarget _ p)).keeps.trans
    (walk_handOn _ p _)

theorem walkStands_setRole (p : Pos) (r : Role) : WalkStands s (setRole p r s) := .of_eq rfl rfl rfl

theorem walk_changeRole (hs : HoldsOnSwitched s) (c : Contacts) (p : Pos) (r : Role) :
    ∀ t ∈ changeRole c p r s, KeepsWalk s t := by
  intro t ht
  by_cases hswitched : s.role p = .switched
  · cases hrefused : roleChangeRefused p s with
    | true => rw [changeRole_refused c hswitched hrefused] at ht; cases ht
    | false =>
      rw [changeRole_leave c hswitched hrefused] at ht
      cases ht
      have hfree : (s.pos p).holds.locate = false := Bool.eq_false_iff.2 (fun hl =>
        absurd ((roleChangeRefused_iff p s).2 (.inr (.inr hl))) (Bool.eq_false_iff.1 hrefused))
      exact walk_leaveSwitching s hfree r
  · by_cases hto : r = .switched
    · subst hto
      rw [changeRole_enter c hswitched] at ht
      cases ht
      exact walk_enterSwitching s c (congrArg HoldSet.locate (hs p hswitched).1)
    · rw [changeRole_between c hswitched hto] at ht
      cases ht
      exact ((walkStands_setRole s p r).trans (walkStands_clearRecord _ p)).keeps

/-! ### Settings written (R167) -/

theorem walkStands_putSetting (x : Setting) (v : Nat) : WalkStands s (putSetting x v s) := .of_eq rfl rfl rfl

theorem walkStands_applyIfIdle (l : Link) : WalkStands s (applyIfIdle l s) := by
  unfold applyIfIdle
  split
  · exact walkStands_modifyPort s _ _
  · exact .refl s

theorem walkStands_afterNumber (n : Number) (v : Nat) : WalkStands s (afterNumber n v s) := by
  cases n with
  | trialCount => exact ⟨rfl, rfl, fun p => by simp [afterNumber, State.pos]⟩
  | recheckInterval => exact ⟨rfl, rfl, fun p => by simp [afterNumber, State.pos]⟩
  | stationP => exact walkStands_applyIfIdle s .p
  | stationS => exact walkStands_applyIfIdle s .s
  | routineInterval => exact .of_eq rfl rfl rfl
  | _ => exact .refl s

theorem walk_changeSetting (hs : HoldsOnSwitched s) (c : Contacts) (x : Setting) (v : Nat) :
    ∀ t ∈ changeSetting c x v s, KeepsWalk s t := by
  intro t ht
  have hput := walkStands_putSetting s x v
  cases x with
  | role p => exact walk_changeRole s hs c p _ t ht
  | peerGroup p => cases ht; exact (hput.trans (walkStands_setRatio _ p _)).keeps
  | number n => cases ht; exact (hput.trans (walkStands_afterNumber _ n v)).keeps
  | speed l => cases ht; exact (hput.trans (walkStands_applyIfIdle _ l)).keeps
  | _ => cases ht; exact hput.keeps

theorem walk_writeApplied (hs : HoldsOnSwitched s) (c : Contacts) (code index : Byte) (x : Setting) (v : Nat) :
    KeepsWalk s (writeApplied c code index x v s).1 := by
  unfold writeApplied
  split
  · exact .refl s
  · split
    · next t ht => exact walk_changeSetting s hs c x v t ht
    · exact .refl s

/-! ### Requests judged (R77, R90, R91, R118, R137, R162) -/

theorem walk_checked {r : Request} {q : Port} {ok : Bool} {f : State → Reply} (h : KeepsWalk s (f s).1) :
    KeepsWalk s (checked r q ok f s).1 := by
  rcases checked_cases r q ok f s with he | ⟨he, -, -⟩
  · rw [he]; exact .refl s
  · rw [he]; exact h

theorem portHolder_ne_locate (q : Port) : portHolder q ≠ .locate := by cases q <;> decide

theorem walk_holdRequest (b : Bool) (q : Port) (body : List Byte) : KeepsWalk s (holdRequest b q body s).1 := by
  unfold holdRequest
  split
  · exact .refl s
  · exact walk_changeHolds s (portHolder_ne_locate q) _ _ (maskPositions_nodup body)

/-- Start Locate starts a walk in ARMED, where none runs (R137). -/
theorem walk_judgeStartLocate (q : Port) (body : List Byte) : KeepsWalk s (judgeStartLocate q body s).1 := by
  refine walk_checked s ?_
  split
  · exact .refl s
  · next hidle =>
    split
    · exact .refl s
    · next harmed => exact ⟨fun hs => walkLaws_startWalk hs (not_not.1 hidle) (not_not.1 harmed) _⟩

theorem walk_judgeCode (hs : HoldsOnSwitched s) (c : Contacts) (q : Port) (code : Byte) (body : List Byte) :
    KeepsWalk s (judgeCode c q code body s).1 := by
  unfold judgeCode
  generalize Request.ofCode code = request
  cases request with
  | none => exact .refl s
  | some r =>
    cases r with
    | readStatus => exact walk_checked s (.refl s)
    | readPosition => refine walk_checked s ?_; split <;> exact .refl s
    | readMap => exact walk_checked s (.refl s)
    | requestSweep =>
      refine walk_checked s ?_
      split
      · exact .refl s
      · split
        · exact .refl s
        · exact ((walkStands_setSeq s _).trans (walkStands_startNext _)).keeps
    | pinSweep =>
      refine walk_checked s ?_
      split
      · exact .refl s
      · split
        · exact .refl s
        · split
          · exact .refl s
          · exact .of_eq rfl rfl rfl
    | readSweep =>
      refine walk_checked s ?_
      split
      · split <;> exact .refl s
      · exact .refl s
    | unpinSweep =>
      refine walk_checked s ?_
      split
      · exact .of_eq rfl rfl rfl
      · exact .refl s
    | placeHold => exact walk_checked s (walk_holdRequest s true q body)
    | releaseHold => exact walk_checked s (walk_holdRequest s false q body)
    | clearFault =>
      refine walk_checked s ?_
      split
      · exact walk_clearFault s _
      · exact .refl s
    | clearSwitch =>
      refine walk_checked s ?_
      split
      · exact walk_clearSwitch s c _
      · exact .refl s
    | startLocate => exact walk_judgeStartLocate s q body
    | readWalk => exact walk_checked s (.refl s)
    | fetchNotices => exact walk_checked s (.of_eq rfl rfl rfl)
    | readSetting => refine walk_checked s ?_; split <;> exact .refl s
    | writeSetting =>
      refine walk_checked s ?_
      split
      · exact walk_writeApplied s hs c _ _ _ _
      · exact .refl s
    | saveSettings =>
      refine walk_checked s ?_
      split
      · exact .refl s
      · exact .of_eq rfl rfl rfl
    | resetRatio =>
      refine walk_checked s ?_
      split
      · exact (walkStands_setRatio s _ _).keeps
      · exact .refl s

/-! ### Every request, as a frame (R158 to R162) -/

theorem walk_judgeFrame (hs : HoldsOnSwitched s) (c : Contacts) (q : Port) (station code : Byte) (body : List Byte) :
    KeepsWalk s (judgeFrame q station code (judgeCode c q code body) s) := by
  unfold judgeFrame
  split
  · exact ((walkStands_modifyPort s q _).keeps.trans (walk_judgeCode (toAnswering q s) hs c q code body)).trans
      (.of_eq rfl rfl rfl)
  · exact (walkStands_modifyPort s q _).keeps

theorem walk_receiveRequest (hs : HoldsOnSwitched s) (c : Contacts) (q : Port) (station code : Byte)
    (body : List Byte) : KeepsWalk s (receiveRequest q station code body (judgeCode c q code body) s) := by
  unfold receiveRequest
  split
  · exact walk_judgeFrame s hs c q station code body
  · exact .refl s

theorem walk_takeChars (hs : HoldsOnSwitched s) (c : Contacts) (q : Port) (chars : List Byte) :
    KeepsWalk s (takeChars c q chars s) := by
  have hport (f : PortState → PortState) := (walkStands_modifyPort s q f).keeps
  unfold takeChars judgeChars
  split
  · split <;> exact hport _
  · split
    · split
      · exact walk_judgeFrame s hs c q _ _ _
      · exact hport _
    · exact hport _

theorem walk_takeChar (hs : HoldsOnSwitched s) (c : Contacts) (q : Port) (char : Byte) :
    KeepsWalk s (takeChar c q char s) := by
  unfold takeChar
  split
  · split
    · exact (walkStands_modifyPort s q _).keeps
    · exact .refl s
  · exact walk_takeChars s hs c q _
  · exact .refl s

/-! ### Sweeps and the walk's settling (R19, R141) -/

theorem walk_handOver (hs : HoldsOnSwitched s) (hd : QueueLaws s) (r : SweepRecord) (run : Running) (l : Nat) :
    KeepsWalk s (handOver r run l s) := by
  unfold handOver
  split
  · exact ((walkStands_learn s r).keeps.trans (.foldl _ (fun s p => walk_takePosition s r p) _ _)).trans
      (walk_takeLeakage _ l)
  · exact (walkStands_modifyPort s _ _).keeps
  · exact (walkStands_modifyPort s _ _).keeps
  · exact (walkStands_modifyPort s _ _).keeps
  · split
    · exact walk_walkSweep hs hd l
    · exact .refl s

theorem walk_completeSweep (hs : HoldsOnSwitched s) (hd : QueueLaws s) (r : SweepRecord) (run : Running) (l : Nat) :
    KeepsWalk s (completeSweep r run l s) := by
  have hrecorded := stands_setSeq s (recordCompleted (s.assess l r) run s).seq
  exact ((walkStands_setSeq s _).keeps.trans
    (walk_handOver (recordCompleted (s.assess l r) run s) hs (hrecorded.queueLaws hd) _ run l)).trans
    (walkStands_startNext _).keeps

/-- SETTLING to MEASURING (R141). -/
theorem walk_enterMeasuring (hstate : s.walk.state = .settling) : KeepsWalk s (enterMeasuring s) := by
  refine ⟨fun hs => ?_⟩
  obtain ⟨p, hp⟩ := hs.exists_walkAt (by rw [hstate]; decide)
  have hmoved : WalkAt p { s with walk := { s.walk with state := .measuring, settleDue := none } } :=
    hp.moved nofun rfl rfl (by rw [hstate]; rfl)
  have hasked : WalkStands { s with walk := { s.walk with state := .measuring, settleDue := none } }
      (enterMeasuring s) :=
    ⟨requestLocate_walk _, by rw [enterMeasuring, (acts_requestLocate _).safety], fun j => by
      rw [enterMeasuring, requestLocate_pos]⟩
  exact (hasked.walkAt hmoved).walkLaws

end

/-! ### Every command -/

/-- Whatever state an outcome leads to, the laws of the walk are kept there. -/
def WalkKeptBy (s : State) (o : Host.Outcome State Fault Refusal) : Prop := ∀ t, o = .next t → KeepsWalk s t

section
variable {s : State}

theorem WalkKeptBy.next {t : State} (h : KeepsWalk s t) : WalkKeptBy s (.next t) := by
  intro u hu
  cases hu
  exact h

theorem WalkKeptBy.stay (s : State) : WalkKeptBy s (.next s) := .next (.refl s)

theorem WalkKeptBy.stands {t : State} (h : WalkStands s t) : WalkKeptBy s (.next t) := .next h.keeps

theorem WalkKeptBy.concluded {t : State} (h : KeepsWalk s t) : WalkKeptBy s (.next (conclude s t)) :=
  .next (h.trans (walkStands_conclude _ s).keeps)

theorem WalkKeptBy.ite {c : Prop} [Decidable c] {o o' : Host.Outcome State Fault Refusal} (h : WalkKeptBy s o)
    (h' : WalkKeptBy s o') : WalkKeptBy s (if c then o else o') := by
  split
  · exact h
  · exact h'

end

section
variable (s : State)

theorem walk_request (hs : HoldsOnSwitched s) {c : Instr} {f : RequestFrame} (h : requestOf c = some f) :
    WalkKeptBy s (exec c s) := by
  have hreceive := walk_receiveRequest s hs f.contacts f.port f.station f.code f.body
  rcases exec_request h s with he | he
  · rw [he]; exact .next hreceive
  · rw [he]; exact .concluded hreceive

theorem walk_loopOpening : WalkKeptBy s (exec .loopOpening s) := by
  cases h : s.safety.state with
  | armed => rw [exec_loopOpening_armed h]; exact .concluded (walk_trip s)
  | tripped => rw [exec_loopOpening_tripped h]; exact .stay s
  | restoring => rw [exec_loopOpening_restoring h]; exact .next (walk_setSafety s (by rw [h]; decide) _ _ _)

theorem walk_loopClosing : WalkKeptBy s (exec .loopClosing s) := by
  by_cases h : s.safety.state = .tripped
  · rw [exec_loopClosing_tripped h]; exact .next (walk_setSafety s (by rw [h]; decide) _ _ _)
  · rw [exec_loopClosing_idle h]; exact .stay s

theorem walk_restoreTimerExpiry : WalkKeptBy s (exec .restoreTimerExpiry s) := by
  simp only [exec, execRestoreTimerExpiry]
  split
  · next due hstate _ =>
    have hoff : (advanceTo due s).safety.state ≠ .armed := by
      rw [advanceTo_safety, hstate]
      decide
    exact .concluded ((walkStands_advanceTo s due).keeps.trans (walk_restore _ hoff))
  · exact .stay s

/-- Every command that is no request row keeps the laws of the walk. -/
theorem walk_event (hs : HoldsOnSwitched s) (hd : QueueLaws s) {c : Instr} (h : requestOf c = none) :
    WalkKeptBy s (exec c s) := by
  cases c with
  | frameDiscarded q => exact .ite (.stands (walkStands_modifyPort s q _)) (.stay s)
  | lengthDiscard q => exact .ite (.stands (walkStands_modifyPort s q _)) (.stay s)
  | characterGapTimeout q => exact .stands (walkStands_discardFrame s q)
  | characterError q => exact .stands (walkStands_discardFrame s q)
  | answerSent q =>
    simp only [exec, execAnswerSent]
    split
    · exact .stands (walkStands_modifyPort s q _)
    · exact .stay s
    · exact .stay s
  | reset c loopClosed keyOn => exact .next (walk_startUp s c loopClosed keyOn)
  | loopOpening => exact walk_loopOpening s
  | loopClosing => exact walk_loopClosing s
  | restoreTimerExpiry => exact walk_restoreTimerExpiry s
  | keyChange => exact .stands (.of_eq rfl rfl rfl)
  | routineTimerExpiry =>
    have hrearm : WalkStands s (rearmRoutine (advanceTo (s.seq.routineDue * 1000) s)) := .of_eq rfl rfl rfl
    exact .ite (.stands hrearm) (.stands ((hrearm.trans (walkStands_setSeq _ _)).trans (walkStands_startNext _)))
  | sweepStart => exact .stands (walkStands_startNext s)
  | channelBurstComplete v =>
    simp only [exec, execChannelBurstComplete]
    split
    · exact .ite (.stands (walkStands_setSeq s _)) (.stay s)
    · exact .stay s
  | sweepComplete v =>
    simp only [exec, execSweepComplete]
    split
    · exact .ite (.concluded (walk_completeSweep s hs hd _ _ _)) (.stay s)
    · exact .stay s
  | declaration p c => exact .ite (.concluded (walk_countAbnormal s p c)) (.stay s)
  | suspicionAbandoned p => exact .ite (.stands (walkStands_holdSuspicion s p)) (.stay s)
  | recheckTimerExpiry p => exact .ite (.concluded (walk_recheckExpired s p)) (.stay s)
  | trialSuccess p => exact .ite (.stands (walkStands_confirmTrial s p)) (.stay s)
  | reportedRecovery p => exact .ite (.stands (walkStands_confirmRecovery s p)) (.stay s)
  | residualDebounceReached p => exact .ite (.concluded (walk_countResidual s p)) (.stay s)
  | leakageAlarmEntry l => exact .ite (.next (walk_takeLeakage s _)) (.stay s)
  | leakageAlarmClear l => exact .ite (.next (walk_takeLeakage s _)) (.stay s)
  | settleTimerExpiry =>
    simp only [exec, execSettleTimerExpiry]
    split
    · next due hstate _ =>
      exact .next ((walkStands_advanceTo s due).keeps.trans (walk_enterMeasuring (advanceTo due s) hstate))
    · exact .stay s
  | batchStart => exact .stands (walkStands_formBatch s)
  | bypassSettleExpiry =>
    simp only [exec, execBypassSettleExpiry]
    split
    · exact .ite (.stands (.of_eq rfl rfl rfl)) (.stay s)
    · exact .stay s
  | coilPulseEnd =>
    simp only [exec, execCoilPulseEnd]
    split
    · exact .ite (.stands (.of_eq rfl rfl rfl)) (.ite (.stands (.of_eq rfl rfl rfl)) (.stay s))
    · exact .stay s
  | nonOverlapExpiry =>
    simp only [exec, execNonOverlapExpiry]
    split
    · exact .ite (.stands (.of_eq rfl rfl rfl)) (.stay s)
    · exact .stay s
  | batchCompletion c =>
    simp only [exec, execBatchCompletion]
    split
    · exact .ite (.concluded ((walkStands_advanceTo s _).keeps.trans (walk_completeBatch _ c _))) (.stay s)
    · exact .stay s
  | hourlyRatioMark =>
    have hsnapshot : WalkStands s (snapshotRatios (advanceTo (s.nextHour * 1000) s)) := .of_eq rfl rfl rfl
    exact .concluded (hsnapshot.trans (walkStands_markRetained _)).keeps
  | saveWriteStart =>
    simp only [exec, execSaveWriteStart]
    split
    · exact .stands (walkStands_startWrite s)
    · exact .stay s
  | saveComplete good =>
    simp only [exec, execSaveComplete]
    split
    · next k c _ =>
      have hended : WalkStands s (endSave k c good s) := .of_eq rfl rfl rfl
      exact .stands (hended.trans (walkStands_startWrite _))
    · exact .stay s
  | retainedWriteStart =>
    simp only [exec, execRetainedWriteStart]
    split
    · exact .stands (walkStands_startWrite s)
    · exact .stay s
  | retainedWriteComplete good =>
    simp only [exec, execRetainedWriteComplete]
    split
    · exact .stands ((walkStands_endRetained s _ _ good).trans (walkStands_startWrite _))
    · exact .stay s
  | characterReceived q char c => exact .concluded (walk_takeChar s hs c q char)
  | unknownRequestCode q station code body =>
    have hknown : (Request.ofCode code).isSome = true := by
      by_contra hk
      rw [requestOf, if_neg hk] at h
      cases h
    simp only [exec, execUnknownRequestCode, if_pos hknown]
    exact .stay s
  | _ => cases h

end

/-- Settles O57: LOCATE comes and goes with the states of a step, a trip ends the walk, and a walk starts in ARMED alone;
the isolation laws and the drive laws say that the candidate is SWITCHED where its LOCATE is put or replaced, and that a
position that becomes SWITCHED held nothing. -/
theorem walkLawsKept : Obligations.WalkLawsKept := by
  rintro c s t ⟨hs, -, -⟩ hdrive hwalk he
  obtain ⟨hd, -⟩ := (driveLaws_iff s).1 hdrive
  cases hc : requestOf c with
  | some f => exact (walk_request s hs hc t he).kept hwalk
  | none => exact (walk_event s hs hd hc t he).kept hwalk

end Sys2Proof.Machine
end

section
/-! PROOFS. The start of a walk (R137, R138), by the request and by an alarm entry, and the leakage alarm as a routine
sweep's leakage moves it (R131 to R135, Table 8-1). -/

namespace Sys2Proof.Machine

/-! ### The start of a walk (R137, R138) -/

theorem candidates_eq (s : State) :
    s.candidates = Pos.all.filter (fun p => decide
      (s.role p = .switched ∧ (s.pos p).condition = .closed ∧ (s.pos p).holds = HoldSet.empty)) := by
  refine List.filter_congr (fun p _ => ?_)
  simp [State.fitCandidate, Bool.and_assoc, beq_eq_decide]

theorem judgeStartLocate_eq {q : Port} (hq : q ≠ .linkP) (s : State) :
    judgeStartLocate q [] s =
      if s.walk.state ≠ .idle then refuse .busy s
      else if s.safety.state ≠ .armed then refuse .safetyActive s
      else accept [byte s.candidates.length] (startWalk (walkOriginOf q) s) := by
  cases q with
  | linkP => exact absurd rfl hq
  | linkS => rfl
  | service => rfl

/-- A Start Locate that is taken ends as an event (R110, R170). -/
theorem exec_startLocate {q : Port} {station : Byte} {s : State} (h : Ready q station 0x30 [] s) :
    exec (.startLocate q station []) s
      = .next (conclude s (takeRequest q station 0x30 (judgeStartLocate q []) s)) :=
  congrArg (fun t => Host.Outcome.next (conclude s t)) (receiveRequest_ready h _)

/-- A request that leaves the Actuation Queue and the store as they were forms no batch and starts no write. -/
theorem conclude_answered {s t : State} (hdrive : t.drive = s.drive) (hstore : t.store = s.store) (q : Port)
    (station code : Byte) (body : List Byte) :
    conclude s (answered q station code body t) = answered q station code body t := conclude_id hdrive hstore

@[simp] theorem requestLocate_store (s : State) : (requestLocate s).store = s.store := by
  unfold requestLocate
  split
  · rfl
  · simp

theorem nextCandidate_store (s : State) : (nextCandidate s).store = s.store := by
  unfold nextCandidate
  split
  · simp
  · rfl

/-- Settles O49: the request is judged by whether a walk runs and then by the safety state, and what it starts touches
neither the Actuation Queue nor the store. -/
theorem walkStarts : Obligations.WalkStarts := by
  intro q station s hq hr candidates origin
  have horigin : walkOriginOf q = origin := by cases q <;> rfl
  rw [exec_startLocate hr]
  refine ⟨fun hrun => ?busy, fun hidle hoff => ?active, fun hidle harmed => ?start⟩
  case busy =>
    rw [takeRequest_quiet, conclude_answered rfl rfl]
    rw [judgeStartLocate_eq hq, toAnswering_walk, if_pos hrun]
    rfl
  case active =>
    rw [takeRequest_quiet, conclude_answered rfl rfl]
    rw [judgeStartLocate_eq hq, toAnswering_walk, if_neg (not_not.2 hidle), toAnswering_safety, if_pos hoff]
    rfl
  case start =>
    have hcandidates : s.candidates = candidates := candidates_eq s
    have htaken : judgeStartLocate q [] (toAnswering q s)
        = (toAnswering q (startWalk origin s), [0x00, byte candidates.length]) := by
      rw [judgeStartLocate_eq hq, toAnswering_walk, if_neg (not_not.2 hidle), toAnswering_safety,
        if_neg (not_not.2 harmed), toAnswering_startWalk, horigin, ← hcandidates]
      rfl
    rw [takeRequest_change htaken, conclude_answered (stands_startWalk s origin).drive (nextCandidate_store _),
      startWalk, hcandidates]
    rfl

/-! ### The moves of the alarm (R132, Table 8-1) -/

/-- The count that a move of the alarm reaches: one more in RISING and FALLING, which a first reading enters at 1
(R132). -/
def Leakage.nextCount (a : Leakage) : Nat := if a.state = .rising ∨ a.state = .falling then a.count + 1 else 1

/-- The state whose Leakage unit has noted the L of a routine sweep (R131). -/
def noteLeakage (l : Nat) (s : State) : State := { s with leakage := { s.leakage with last := l } }

section
variable {s : State} {l : Nat}

/-- At the trip value or above it the alarm rises from QUIET and RISING. -/
theorem takeLeakage_rise (hhigh : s.settings.leakageTrip ≤ l)
    (hstate : s.leakage.state = .quiet ∨ s.leakage.state = .rising) :
    takeLeakage l s = rise s.leakage.nextCount (noteLeakage l s) := by
  rw [takeLeakage, moveAlarm, if_pos hhigh]
  rcases hstate with h | h <;> simp [h, Leakage.nextCount, noteLeakage]

theorem takeLeakage_falling (hhigh : s.settings.leakageTrip ≤ l) (hstate : s.leakage.state = .falling) :
    takeLeakage l s = setAlarm .alarm 0 (noteLeakage l s) := by
  rw [takeLeakage, moveAlarm, if_pos hhigh]
  simp [hstate, noteLeakage]

theorem takeLeakage_alarm (hhigh : s.settings.leakageTrip ≤ l) (hstate : s.leakage.state = .alarm) :
    takeLeakage l s = noteLeakage l s := by
  rw [takeLeakage, moveAlarm, if_pos hhigh]
  simp [hstate, noteLeakage]

/-- Between the clear value and the trip value the alarm stands (R132, R134). -/
theorem takeLeakage_between (hhigh : ¬ s.settings.leakageTrip ≤ l)
    (hlow : ¬ (l < s.settings.leakageTrip ∧ 4 * l ≤ 3 * s.settings.leakageTrip)) :
    takeLeakage l s = noteLeakage l s := by
  have hclear : ¬ l ≤ clearValue s.settings.leakageTrip :=
    fun h => hlow ⟨not_le.1 hhigh, (le_clearValue _ _).1 h⟩
  rw [takeLeakage, moveAlarm, if_neg hhigh, if_neg hclear]
  rfl

section
variable (hlow : l < s.settings.leakageTrip ∧ 4 * l ≤ 3 * s.settings.leakageTrip)
include hlow

/-- At the clear value or below it the alarm falls from ALARM and FALLING. -/
theorem takeLeakage_fall (hstate : s.leakage.state = .alarm ∨ s.leakage.state = .falling) :
    takeLeakage l s = fall s.leakage.nextCount (noteLeakage l s) := by
  rw [takeLeakage, moveAlarm, if_neg (not_le.2 hlow.1), if_pos ((le_clearValue _ _).2 hlow.2)]
  rcases hstate with h | h <;> simp [h, Leakage.nextCount, noteLeakage]

theorem takeLeakage_rising (hstate : s.leakage.state = .rising) :
    takeLeakage l s = setAlarm .quiet 0 (noteLeakage l s) := by
  rw [takeLeakage, moveAlarm, if_neg (not_le.2 hlow.1), if_pos ((le_clearValue _ _).2 hlow.2)]
  simp [hstate, noteLeakage]

theorem takeLeakage_quiet (hstate : s.leakage.state = .quiet) : takeLeakage l s = noteLeakage l s := by
  rw [takeLeakage, moveAlarm, if_neg (not_le.2 hlow.1), if_pos ((le_clearValue _ _).2 hlow.2)]
  simp [hstate, noteLeakage]

end

theorem rise_counted {n : Nat} (h : n < s.settings.leakageDebounce) : rise n s = setAlarm .rising n s :=
  if_neg (not_le.2 h)

theorem rise_entered {n : Nat} (h : s.settings.leakageDebounce ≤ n) : rise n s = enterAlarm s := if_pos h

theorem fall_counted {n : Nat} (h : n < s.settings.leakageDebounce) : fall n s = setAlarm .falling n s :=
  if_neg (not_le.2 h)

theorem fall_entered {n : Nat} (h : s.settings.leakageDebounce ≤ n) : fall n s = enterQuiet s := if_pos h

/-- The two alarm commands act where the hand-over would bring their event about (R133, log entry 7). -/
theorem alarmEnters_of_rise (hhigh : s.settings.leakageTrip ≤ l)
    (hstate : s.leakage.state = .quiet ∨ s.leakage.state = .rising)
    (hcount : s.settings.leakageDebounce ≤ s.leakage.nextCount) : s.alarmEnters l = true := by
  rcases hstate with h | h <;> simp_all [State.alarmEnters, Leakage.nextCount]

theorem alarmClears_of_fall (hlow : l < s.settings.leakageTrip ∧ 4 * l ≤ 3 * s.settings.leakageTrip)
    (hstate : s.leakage.state = .alarm ∨ s.leakage.state = .falling)
    (hcount : s.settings.leakageDebounce ≤ s.leakage.nextCount) : s.alarmClears l = true := by
  have hclear := (le_clearValue _ _).2 hlow.2
  rcases hstate with h | h <;> simp_all [State.alarmClears, Leakage.nextCount]

/-- An entry into ALARM, and the walk that it starts (R133, R135). -/
theorem enterAlarm_eq (s : State) :
    enterAlarm s =
      if s.settings.autoWalk = true ∧ s.walk.state = .idle ∧ s.safety.state = .armed then
        startWalk .auto (emit .leakage .set none .absent (setAlarm .alarm 0 s))
      else emit .leakage .set none .absent (setAlarm .alarm 0 s) :=
  if_congr (autoWalkStarts_iff _) rfl rfl

end

/-- Settles O48: each reading in each state of the alarm is one move of Table 8-1. -/
theorem alarmMoves : Obligations.AlarmMoves := by
  intro s l trip db a low high n moved entered takes candidates walked entry
  have hentry : enterAlarm (noteLeakage l.toNat s) = entry := by
    have hcandidates : (noteLeakage l.toNat s).candidates = candidates := candidates_eq s
    have hwalked : startWalk .auto entered = walked :=
      congrArg (fun ps => nextCandidate (emit .walk .set none .absent { entered with
        walk := newWalk .auto s.uptime ps })) hcandidates
    exact (enterAlarm_eq _).trans (if_congr Iff.rfl hwalked rfl)
  refine ⟨fun hh hs hn => ?counted, fun hh hs hn => ?entered, fun hh hs => takeLeakage_falling hh hs,
    fun hl hs => takeLeakage_rising hl hs, fun hl hs hn => ?falls, fun hl hs hn => ?cleared, ?stands⟩
  case counted => exact (takeLeakage_rise hh hs).trans (rise_counted hn)
  case entered =>
    have htakes : takeLeakage l.toNat s = entry := ((takeLeakage_rise hh hs).trans (rise_entered hn)).trans hentry
    refine ⟨htakes, ?_⟩
    simp only [exec, execLeakageAlarmEntry, if_pos (alarmEnters_of_rise hh hs hn), htakes]
  case falls => exact (takeLeakage_fall hl hs).trans (fall_counted hn)
  case cleared =>
    have htakes : takeLeakage l.toNat s = emit .leakage .clear none .absent (moved .quiet 0) :=
      (takeLeakage_fall hl hs).trans (fall_entered hn)
    refine ⟨htakes, ?_⟩
    simp only [exec, execLeakageAlarmClear, if_pos (alarmClears_of_fall hl hs hn), htakes]
  case stands =>
    rintro (⟨hh, hs⟩ | ⟨hl, hs⟩ | ⟨hh, hl⟩)
    · exact takeLeakage_alarm hh hs
    · exact takeLeakage_quiet hl hs
    · exact takeLeakage_between hh hl

end Sys2Proof.Machine
end

section
/-! PROOFS. The walk in RECLOSING after a hold change, and its ends (R143, R144, R146). -/

namespace Sys2Proof.Machine

/-- A condition is settled where its target is met, at a switch fault, and where it is ABSENT (R143). -/
theorem settledAgainst_iff (c : Condition) (t : Target) :
    settledAgainst c t = true ↔
      (c = .closed ∧ t = .closed) ∨ (c = .opened ∧ t = .opened)
        ∨ c = .jammedClosed ∨ c = .jammedOpen ∨ c = .conductingOpen ∨ c = .absent := by
  cases c <;> cases t <;> simp [settledAgainst]

section
variable {s t : State} {h : Holder} {b : Bool} {ps : List Pos}

/-- The test is made at the candidate, where the change altered its hold set (R143). -/
theorem reclosingAfter_altered {p : Pos} (hp : s.walk.candidate = some p) (hmem : p ∈ ps)
    (halters : alters h b s p = true) : reclosingAfter h b ps s t = reclosingTest p t := by
  rw [reclosingAfter, hp]
  exact if_pos ⟨hmem, halters⟩

/-- Else nothing is tested. -/
theorem reclosingAfter_unaltered (hnone : ∀ p, s.walk.candidate = some p → ¬ (p ∈ ps ∧ alters h b s p = true)) :
    reclosingAfter h b ps s t = t := by
  unfold reclosingAfter
  split
  · next p hp => exact if_neg (hnone p hp)
  · rfl

end

/-- Settles O44: the test of RECLOSING on the state that the change leaves, the settled conditions, and the ends of a
walk. -/
theorem walkReclosesAndEnds : Obligations.WalkReclosesAndEnds := by
  refine ⟨?recloses, fun s h b r ps => ⟨rfl, changeHolder_walk h b r ps s⟩, settledAgainst_iff,
    fun s o found => ⟨fun hidle => if_pos hidle, fun _ p hp => abandonWalk_running hp, rfl⟩⟩
  case recloses =>
    intro s t h b ps hwalk tested
    refine ⟨?goesOn, fun hn => ?stays⟩
    case goesOn =>
      rintro ⟨p, hp, hmem, hhas, hrole, hstate, hsettled⟩
      rw [reclosingAfter_altered hp hmem ((alters_iff s h b p).2 ⟨hhas, hrole⟩)]
      exact reclosingTest_settled (hwalk ▸ hp) (hwalk ▸ hstate) hsettled
    case stays =>
      by_cases hp : ∃ p, s.walk.candidate = some p ∧ p ∈ ps ∧ alters h b s p = true
      · obtain ⟨p, hp, hmem, halters⟩ := hp
        obtain ⟨hhas, hrole⟩ := (alters_iff s h b p).1 halters
        rw [reclosingAfter_altered hp hmem halters]
        exact if_neg (fun ⟨hstate, _, hsettled⟩ => hn ⟨p, hp, hmem, hhas, hrole, hwalk ▸ hstate, hsettled⟩)
      · exact reclosingAfter_unaltered (fun p hc ha => hp ⟨p, hc, ha⟩)

end Sys2Proof.Machine
end

section
/-! PROOFS. Notices offered to a port's queue, and fetched from it (R151 to R155, Table 9-2). -/

namespace Sys2Proof.Machine

/-! ### A notice offered (R152 to R154) -/

theorem keeps_iff (sub : Subscription) (e : Edge) :
    sub.keeps e = true ↔ sub = .both ∨ (sub = .set ∧ e = .set) ∨ (sub = .clear ∧ e = .clear) := by
  cases sub with
  | off => simp [Subscription.keeps]
  | set => cases e <;> simp [Subscription.keeps]
  | clear => cases e <;> simp [Subscription.keeps]
  | both => simp [Subscription.keeps]

section
variable {sub : PerKind Subscription} {n : Notice} {x : PortState}

theorem offer_unwanted (h : ¬ (sub.get n.kind).keeps n.edge = true) : offer sub n x = x := if_neg h

theorem offer_kept (h : (sub.get n.kind).keeps n.edge = true) (hroom : x.notices.length < Config.noticeLimit) :
    offer sub n x = { x with notices := x.notices ++ [n] } := by
  rw [offer, if_pos h, if_pos hroom]

theorem offer_dropped (h : (sub.get n.kind).keeps n.edge = true) (hfull : Config.noticeLimit ≤ x.notices.length) :
    offer sub n x = { x with overflow := true } := by
  rw [offer, if_pos h, if_neg (Nat.not_lt.2 hfull)]

end

/-- Each port is offered the notice by its own subscriptions (R152). -/
theorem emit_ports_get (k : NoticeKind) (e : Edge) (p : Option Pos) (d : Detail) (s : State) (q : Port) :
    (emit k e p d s).ports.get q
      = offer (s.settings.subscription.get q) ⟨k, e, p, d, s.seq.lastNumber, s.uptime⟩ (s.ports.get q) := by
  cases q <;> rfl

/-- Settles O34: the three outcomes of `offer`, at each port. -/
theorem noticeOffered : Obligations.NoticeOffered := by
  intro s k e p d t
  refine ⟨rfl, fun q => ?_⟩
  intro x sub wanted
  have hwanted : sub.keeps e = true ↔ wanted := keeps_iff sub e
  have hget : t.ports.get q = _ := emit_ports_get k e p d s q
  rw [hget]
  exact ⟨fun h => offer_unwanted (mt hwanted.1 h), fun h => offer_kept (hwanted.2 h), fun h => offer_dropped (hwanted.2 h)⟩

/-! ### Notices fetched (R155) -/

theorem judgeFetchNotices_empty (q : Port) (s : State) :
    judgeFetchNotices q [] s = (fetchNotices q s, 0x00 :: fetchBody (s.ports.get q)) :=
  checked_passes (by cases q <;> rfl) rfl (by cases q <;> rfl) _ s

theorem exec_fetchNotices {q : Port} {station : Byte} {s : State} (h : Ready q station 0x40 [] s) :
    exec (.fetchNotices q station []) s
      = .next (answered q station 0x40 (0x00 :: fetchBody (s.ports.get q)) (fetchNotices q s)) := by
  have hjudge : judgeFetchNotices q [] (toAnswering q s)
      = (toAnswering q (fetchNotices q s), 0x00 :: fetchBody (s.ports.get q)) := by
    rw [judgeFetchNotices_empty]
    simp only [fetchNotices, toAnswering, modifyPort_modifyPort, modifyPort_get_self]
    rfl
  have hreceive := receiveRequest_ready h (judgeFetchNotices q [])
  rw [takeRequest_change hjudge] at hreceive
  exact congrArg _ hreceive

section
variable {x : PortState} {taken kept : List Notice} (hqueue : x.notices = taken ++ kept)
  (hcut : taken.length = 16 ∨ (taken.length < 16 ∧ kept = []))
include hqueue hcut

/-- The oldest 16 notices of a queue, or all where there are fewer, and the rest (R155). -/
theorem fetched_eq :
    x.notices.take Config.fetchLimit = taken ∧ x.notices.drop Config.fetchLimit = kept := by
  rw [hqueue]
  rcases hcut with h | ⟨h, rfl⟩
  · exact ⟨List.take_left' h, List.drop_left' h⟩
  · rw [List.append_nil]
    exact ⟨List.take_of_length_le h.le, List.drop_of_length_le h.le⟩

theorem fetchBody_eq :
    fetchBody x = [byte taken.length, byte kept.length, flagByte x.overflow] ++ taken.flatMap noticeBytes := by
  obtain ⟨htake, hdrop⟩ := fetched_eq hqueue hcut
  rw [fetchBody, htake, hdrop]

end

/-- Settles O35: the queue is cut at 16 notices, and the bytes of the answer are those of `fetchBody`. -/
theorem noticesFetched : Obligations.NoticesFetched := by
  intro q station s taken kept hready x hqueue hcut
  obtain ⟨-, hdrop⟩ := fetched_eq hqueue hcut
  have hstate : fetchNotices q s = { s with ports := s.ports.set q { x with notices := kept, overflow := false } } := by
    rw [← hdrop]
    rfl
  rw [exec_fetchNotices hready, hstate, fetchBody_eq hqueue hcut]
  rfl

end Sys2Proof.Machine
end

section
/-! PROOFS. The ranges of notice queues, learned ratios and settings (R52, R154, R167) and the schedule of the store (R168
to R170): `KeepsRanges` for every operation, `Proceeds` for those that an event is made of before it ends. -/

namespace Sys2Proof.Machine

/-! ### The writes that wait (R168 to R170) -/

/-- How many retained writes wait. -/
def retainedWaiting (ws : List Waiting) : Nat := (ws.filter (fun w => w == .retained)).length

/-- How many saves wait. -/
def savesWaiting (ws : List Waiting) : Nat := (ws.filter (fun w => w != .retained)).length

/-- 1 while a save is written. -/
def savesWriting : Option Writing → Nat
  | some (.save _ _) => 1
  | _ => 0

/-- The laws of the store's schedule that hold within an event too, where a write may wait for the event to end. -/
structure WaitingLaws (x : Store) : Prop where
  retained : retainedWaiting x.waiting ≤ 1
  saves : savesWaiting x.waiting + savesWriting x.writing ≤ 1

theorem storeLaws_iff (s : State) :
    StoreLaws s ↔ (s.store.writing = none → s.store.waiting = []) ∧ WaitingLaws s.store := by
  constructor
  · rintro ⟨hfree, hretained, hsaves⟩
    exact ⟨hfree, hretained, hsaves⟩
  · rintro ⟨hfree, hretained, hsaves⟩
    exact ⟨hfree, hretained, hsaves⟩

@[simp] theorem retainedWaiting_save (st : Settings) (ws : List Waiting) :
    retainedWaiting (.save st :: ws) = retainedWaiting ws := rfl

@[simp] theorem retainedWaiting_retained (ws : List Waiting) :
    retainedWaiting (.retained :: ws) = retainedWaiting ws + 1 := rfl

@[simp] theorem savesWaiting_save (st : Settings) (ws : List Waiting) :
    savesWaiting (.save st :: ws) = savesWaiting ws + 1 := rfl

@[simp] theorem savesWaiting_retained (ws : List Waiting) : savesWaiting (.retained :: ws) = savesWaiting ws := rfl

/-- A retained write waits, where none waited before (R169). -/
theorem WaitingLaws.marked {x : Store} (h : WaitingLaws x) (hnone : Waiting.retained ∉ x.waiting) :
    WaitingLaws { x with waiting := x.waiting ++ [.retained] } := by
  obtain ⟨-, hsaves⟩ := h
  have hzero : x.waiting.filter (fun w => w == .retained) = [] :=
    List.filter_eq_nil_iff.2 (fun w hw he => hnone (eq_of_beq he ▸ hw))
  constructor
  · simp [retainedWaiting, List.filter_append, hzero]
  · simpa [savesWaiting, List.filter_append] using hsaves

/-- A save waits, where none was in progress (R168). -/
theorem WaitingLaws.queued {x : Store} (h : WaitingLaws x) (hnone : x.saving = false) (st : Settings) :
    WaitingLaws { x with waiting := x.waiting ++ [.save st] } := by
  obtain ⟨hwaiting, hwriting⟩ := Bool.or_eq_false_iff.1 hnone
  have hzero : x.waiting.filter (fun w => w != .retained) = [] := by
    refine List.filter_eq_nil_iff.2 (fun w hw he => ?_)
    cases w with
    | save st => simpa using List.any_eq_false.1 hwaiting _ hw
    | retained => exact absurd he (by decide)
  have hidle : savesWriting x.writing = 0 := by
    unfold savesWriting
    split
    · next hw => rw [hw] at hwriting; cases hwriting
    · rfl
  constructor
  · simpa [retainedWaiting, List.filter_append] using h.retained
  · simp [savesWaiting, List.filter_append, hzero, hidle]

/-- What the start of a write does: the first waiting write takes the store when it is free (R170). -/
inductive WriteStarts (s : State) : State → Prop
  | save (st : Settings) (rest : List Waiting) (hfree : s.store.writing = none)
      (hfirst : s.store.waiting = .save st :: rest) :
      WriteStarts s { s with store := { s.store with waiting := rest }.beginSave st }
  | retained (rest : List Waiting) (hfree : s.store.writing = none) (hfirst : s.store.waiting = .retained :: rest) :
      WriteStarts s { s with store := { s.store with waiting := rest }.beginRetained s.retained }
  | stays (hidle : s.store.writing = none → s.store.waiting = []) : WriteStarts s s

theorem startWrite_cases (s : State) : WriteStarts s (startWrite s) := by
  unfold startWrite
  split
  · next hfree hfirst => exact .save _ _ hfree hfirst
  · next hfree hfirst => exact .retained _ hfree hfirst
  · next hsave hmark =>
    refine .stays (fun hfree => ?_)
    cases hwaiting : s.store.waiting with
    | nil => rfl
    | cons w rest =>
      cases w with
      | save st => exact (hsave st rest hfree hwaiting).elim
      | retained => exact (hmark rest hfree hwaiting).elim

/-- The store takes its first waiting write when it is free, and a write waits then only while it writes (R170). -/
theorem storeLaws_startWrite {s : State} (h : WaitingLaws s.store) : StoreLaws (startWrite s) := by
  rw [storeLaws_iff]
  obtain ⟨hretained, hsaves⟩ := h
  have hstarts := startWrite_cases s
  generalize startWrite s = t at hstarts ⊢
  cases hstarts with
  | save st rest hfree hfirst =>
    rw [hfirst, retainedWaiting_save] at hretained
    rw [hfirst, hfree, savesWaiting_save] at hsaves
    exact ⟨nofun, hretained, hsaves⟩
  | retained rest hfree hfirst =>
    rw [hfirst, retainedWaiting_retained] at hretained
    rw [hfirst, hfree, savesWaiting_retained] at hsaves
    exact ⟨nofun, Nat.le_of_succ_le hretained, hsaves⟩
  | stays hidle => exact ⟨hidle, hretained, hsaves⟩

/-! ### Operations that keep the ranges -/

/-- An operation keeps the bound of the notice queues and the ranges of ratios and settings (R52, R154, R167). -/
structure KeepsRanges (s t : State) : Prop where
  notices : NoticesBounded s → NoticesBounded t
  ratios : RatiosInRange s → RatiosInRange t
  settings : SettingsInRange s → SettingsInRange t

theorem KeepsRanges.refl (s : State) : KeepsRanges s s := ⟨id, id, id⟩

theorem KeepsRanges.trans {s t u : State} (h : KeepsRanges s t) (k : KeepsRanges t u) : KeepsRanges s u :=
  ⟨k.notices ∘ h.notices, k.ratios ∘ h.ratios, k.settings ∘ h.settings⟩

/-- Within an event the write under way goes on, and the writes that wait keep their laws (R168 to R170). -/
structure Proceeds (s t : State) : Prop extends KeepsRanges s t where
  writing : t.store.writing = s.store.writing
  waiting : WaitingLaws s.store → WaitingLaws t.store

theorem Proceeds.refl (s : State) : Proceeds s s := ⟨.refl s, rfl, id⟩

theorem Proceeds.trans {s t u : State} (h : Proceeds s t) (k : Proceeds t u) : Proceeds s u :=
  ⟨h.toKeepsRanges.trans k.toKeepsRanges, k.writing.trans h.writing, k.waiting ∘ h.waiting⟩

/-- An operation that leaves the store as it is, and keeps queues, ratios and working copy in range. -/
theorem Proceeds.of_store {s t : State} (hstore : t.store = s.store)
    (hports : ∀ q, (t.ports.get q).notices.length ≤ (s.ports.get q).notices.length)
    (hratio : ∀ p, ratioOk (s.pos p).ratio = true → ratioOk (t.pos p).ratio = true)
    (hsettings : s.settings.inRange → t.settings.inRange) : Proceeds s t where
  notices hs q := (hports q).trans (hs q)
  ratios := fun ⟨hpos, hstored⟩ => ⟨fun p => hratio p (hpos p), by rw [hstore]; exact hstored⟩
  settings := fun ⟨hcopy, hstored⟩ => ⟨hsettings hcopy, by rw [hstore]; exact hstored⟩
  writing := by rw [hstore]
  waiting := by rw [hstore]; exact id

/-- An operation on clock, sequencer, drive, safety, leakage, walk and key alone. -/
theorem Proceeds.of_eq {s t : State} (hstore : t.store = s.store) (hports : t.ports = s.ports)
    (hpositions : t.positions = s.positions) (hsettings : t.settings = s.settings) : Proceeds s t :=
  .of_store hstore (fun q => by rw [hports]) (fun p => by rw [pos_eq_of_positions hpositions]; exact id)
    (by rw [hsettings]; exact id)

theorem offer_notices_le (sub : PerKind Subscription) (n : Notice) {x : PortState}
    (h : x.notices.length ≤ Config.noticeLimit) : (offer sub n x).notices.length ≤ Config.noticeLimit := by
  unfold offer
  split
  · split
    · next hroom => rw [List.length_append]; exact hroom
    · exact h
  · exact h

theorem foldl_offerPorts_notices_le (sub : PerPort (PerKind Subscription)) (ns : List Notice) (x : PerPort PortState)
    (h : ∀ q, (x.get q).notices.length ≤ Config.noticeLimit) (q : Port) :
    ((ns.foldl (offerPorts sub) x).get q).notices.length ≤ Config.noticeLimit := by
  induction ns generalizing x with
  | nil => exact h q
  | cons n ns ih =>
    refine ih _ (fun q => ?_)
    cases q with
    | linkP => exact offer_notices_le _ n (h .linkP)
    | linkS => exact offer_notices_le _ n (h .linkS)
    | service => exact offer_notices_le _ n (h .service)

/-- What only offers notices and marks the retained state keeps all of it. -/
theorem Acts.proceeds {s t : State} (h : Acts s t) : Proceeds s t where
  notices hs := by
    obtain ⟨ns, hports⟩ := h.ports
    intro q
    rw [hports]
    exact foldl_offerPorts_notices_le _ ns _ hs q
  ratios := by
    rintro ⟨hpos, hstored⟩
    refine ⟨fun p => by rw [h.ratio p]; exact hpos p, ?_⟩
    rcases h.store with hstore | ⟨-, hstore⟩
    · rw [hstore]; exact hstored
    · rw [hstore]; exact hstored
  settings := by
    rintro ⟨hcopy, hstored⟩
    refine ⟨by rw [h.settings]; exact hcopy, ?_⟩
    rcases h.store with hstore | ⟨-, hstore⟩
    · rw [hstore]; exact hstored
    · obtain ⟨himage, hwriting, hwaiting⟩ := hstored
      rw [hstore]
      exact ⟨himage, hwriting, fun st hst => hwaiting st (by simpa using hst)⟩
  writing := by
    rcases h.store with hstore | ⟨-, hstore⟩
    · rw [hstore]
    · rw [hstore]
  waiting hs := by
    rcases h.store with hstore | ⟨hnone, hstore⟩
    · rw [hstore]; exact hs
    · rw [hstore]; exact hs.marked hnone

/-! ### Numeric settings (R167) -/

theorem clampNat_range {lo hi : Nat} (h : lo ≤ hi) (v : Nat) : lo ≤ clampNat lo hi v ∧ clampNat lo hi v ≤ hi := by
  unfold clampNat
  split
  · omega
  · split <;> omega

theorem number_setNumber_self (st : Settings) (n : Number) (v : Nat) : (st.setNumber n v).number n = v := by
  cases n <;> rfl

/-- A write to one number leaves every other as it is, field by field. -/
theorem number_setNumber_of_ne (st : Settings) {m n : Number} (h : m ≠ n) (v : Nat) :
    (st.setNumber n v).number m = st.number m := by
  cases n <;> cases m <;> first | rfl | exact absurd rfl h

/-- An applied value keeps the working copy in range: a numeric one is clamped, and no other changes a number. -/
theorem inRange_put {st : Settings} (h : st.inRange) {x : Setting} {v w : Nat} (hw : x.applied v = some w) :
    (st.put x w).inRange := by
  cases x with
  | number n =>
    intro m
    by_cases hm : m = n
    · subst hm
      cases hw
      simp only [Settings.put, number_setNumber_self]
      exact clampNat_range (by cases m <;> decide) v
    · simp only [Settings.put, number_setNumber_of_ne st hm]
      exact h m
  | speed l => cases l <;> exact h
  | _ => exact h

/-! ### Ratios (R52, R54) -/

theorem ratioOk_unit : ratioOk Config.unitRatio = true := rfl

theorem ratioOk_learnedRatio (r : Nat) (q : Int) : ratioOk (learnedRatio r q) = true := by
  rw [learnedRatio_eq]
  simp only [ratioOk, Bool.and_eq_true, decide_eq_true_eq]
  omega

theorem ratioOk_nextRatio {s : State} {p : Pos} (r : SweepRecord) (h : ratioOk (s.pos p).ratio = true) :
    ratioOk (s.nextRatio r p) = true := by
  unfold State.nextRatio
  split
  · split
    · exact ratioOk_learnedRatio _ _
    · exact h
  · exact h

/-! ### Single operations -/

section
variable (s : State)

theorem proceeds_modifyPort (q : Port) {f : PortState → PortState} (h : ∀ x, (f x).notices.length ≤ x.notices.length) :
    Proceeds s (modifyPort q f s) := by
  refine .of_store rfl (fun r => ?_) (fun _ => id) id
  rw [modifyPort_get]
  split
  · next hr => rw [hr]; exact h _
  · exact le_rfl

theorem proceeds_advanceTo (t : Nat) : Proceeds s (advanceTo t s) := .of_eq rfl rfl rfl rfl

theorem proceeds_setSeq (x : Sequencer) : Proceeds s { s with seq := x } := .of_eq rfl rfl rfl rfl

theorem proceeds_setSafety (a : SafetyState) (due : Option Nat) (b : Bool) : Proceeds s (setSafety a due b s) :=
  .of_eq rfl rfl rfl rfl

theorem proceeds_learn (r : SweepRecord) : Proceeds s (learn r s) := by
  refine .of_store rfl (fun _ => le_rfl) (fun p h => ?_) id
  rw [learn_pos]
  exact ratioOk_nextRatio r h

/-- A ratio set to 1024 (R12, R57). -/
theorem proceeds_setRatio (p : Pos) : Proceeds s (setRatio p Config.unitRatio s) := by
  refine .of_store rfl (fun _ => le_rfl) (fun j h => ?_) id
  rw [setRatio_pos]
  split
  · exact ratioOk_unit
  · exact h

theorem proceeds_setRole (p : Pos) (r : Role) : Proceeds s (setRole p r s) :=
  .of_store rfl (fun _ => le_rfl) (fun _ => id) id

theorem proceeds_putSetting {x : Setting} {v w : Nat} (hw : x.applied v = some w) : Proceeds s (putSetting x w s) :=
  .of_store rfl (fun _ => le_rfl) (fun _ => id) (fun h => inRange_put h hw)

/-- The working copy becomes the snapshot of a save that waits (R168). -/
theorem proceeds_queueSave (hnone : s.store.saving = false) : Proceeds s (queueSave s) where
  notices := id
  ratios := id
  settings := by
    rintro ⟨hcopy, himage, hwriting, hwaiting⟩
    refine ⟨hcopy, himage, hwriting, fun st hst => ?_⟩
    rcases List.mem_append.1 hst with hst | hst
    · exact hwaiting st hst
    · cases List.mem_singleton.1 hst
      exact hcopy
  writing := rfl
  waiting h := h.queued hnone _

/-- The learned ratios become the ratio snapshot (R56). -/
theorem proceeds_snapshotRatios : Proceeds s (snapshotRatios s) where
  notices := id
  ratios := by
    rintro ⟨hpos, -, himage, hwriting⟩
    refine ⟨hpos, fun p => ?_, himage, hwriting⟩
    simp only [snapshotRatios, tabulate_get]
    exact hpos p
  settings := id
  writing := rfl
  waiting h := ⟨h.retained, h.saves⟩

/-! ### The writes of the store (R168 to R170) -/

theorem image_get_set {α : Type} (im : Image α) (k j : CopyName) (c : Option (Copy α)) :
    (im.set k c).get j = if j = k then c else im.get j := by
  cases k <;> cases j <;> rfl

/-- A law of every good copy of an image holds after one copy is written, where it holds of what is written. -/
theorem image_set_forall {α : Type} {P : α → Prop} {im : Image α} (h : ∀ k c, im.get k = some c → P c.content)
    {k : CopyName} {new : Option (Copy α)} (hnew : ∀ c, new = some c → P c.content) :
    ∀ j c, (im.set k new).get j = some c → P c.content := by
  intro j c hc
  rw [image_get_set] at hc
  split at hc
  · exact hnew c hc
  · exact h j c hc

/-- Marking a copy invalid leaves the law of the other (R168). -/
theorem image_invalid_forall {α : Type} {P : α → Prop} {im : Image α} (h : ∀ k c, im.get k = some c → P c.content)
    (k : CopyName) : ∀ j c, (im.set k none).get j = some c → P c.content :=
  image_set_forall h (fun _ hc => by cases hc)

/-- What a read-back confirms stands in its copy, and a mismatch leaves it invalid (R168, R169). -/
theorem image_readBack_forall {α : Type} {P : α → Prop} {im : Image α} (h : ∀ k c, im.get k = some c → P c.content)
    (k : CopyName) {c : Copy α} (hc : P c.content) (good : Bool) :
    ∀ j d, (im.set k (if good then some c else none)).get j = some d → P d.content := by
  refine image_set_forall h (fun d hd => ?_)
  obtain ⟨-, he⟩ := Option.ite_none_right_eq_some.1 hd
  cases he
  exact hc

section
variable {x : Store}

theorem storedSettingsOk_beginSave (h : storedSettingsOk x) {st : Settings} (hst : st.inRange) :
    storedSettingsOk (x.beginSave st) := by
  obtain ⟨himage, -, hwaiting⟩ := h
  refine ⟨image_invalid_forall himage _, fun k c hc => ?_, hwaiting⟩
  obtain ⟨-, rfl⟩ := Writing.save.inj (Option.some.inj hc)
  exact hst

theorem storedRatiosOk_beginSave (h : storedRatiosOk x) (st : Settings) : storedRatiosOk (x.beginSave st) := by
  obtain ⟨hsnapshot, himage, -⟩ := h
  exact ⟨hsnapshot, himage, fun _ _ hc => by cases hc⟩

theorem storedSettingsOk_beginRetained (h : storedSettingsOk x) (r : Retained) :
    storedSettingsOk (x.beginRetained r) := by
  obtain ⟨himage, -, hwaiting⟩ := h
  exact ⟨himage, fun _ _ hc => (by cases hc), hwaiting⟩

theorem storedRatiosOk_beginRetained (h : storedRatiosOk x) {r : Retained} (hr : ratiosOk r.ratios) :
    storedRatiosOk (x.beginRetained r) := by
  obtain ⟨hsnapshot, himage, -⟩ := h
  refine ⟨hsnapshot, image_invalid_forall (P := fun (r : Retained) => ratiosOk r.ratios) himage _, fun k c hc => ?_⟩
  obtain ⟨-, rfl⟩ := Writing.retained.inj (Option.some.inj hc)
  exact hr

end

/-- A waiting write starts: its copy is marked invalid, and what it writes is in range (R168, R169). -/
theorem keepsRanges_startWrite : KeepsRanges s (startWrite s) := by
  have hstarts := startWrite_cases s
  generalize startWrite s = t at hstarts ⊢
  cases hstarts with
  | save st rest hfree hfirst =>
    refine ⟨id, fun ⟨hpos, hstored⟩ => ⟨hpos, storedRatiosOk_beginSave (x := { s.store with waiting := rest }) hstored st⟩,
      fun ⟨hcopy, himage, hwriting, hwaiting⟩ => ⟨hcopy, ?_⟩⟩
    rw [hfirst] at hwaiting
    exact storedSettingsOk_beginSave (x := { s.store with waiting := rest })
      ⟨himage, hwriting, fun st' hst => hwaiting st' (.tail _ hst)⟩ (hwaiting st (.head _))
  | retained rest hfree hfirst =>
    refine ⟨id, fun ⟨hpos, hstored⟩ => ⟨hpos, ?_⟩, fun ⟨hcopy, himage, hwriting, hwaiting⟩ => ⟨hcopy, ?_⟩⟩
    · exact storedRatiosOk_beginRetained (x := { s.store with waiting := rest }) hstored hstored.1
    · rw [hfirst] at hwaiting
      exact storedSettingsOk_beginRetained (x := { s.store with waiting := rest })
        ⟨himage, hwriting, fun st hst => hwaiting st (.tail _ hst)⟩ _
  | stays => exact .refl s

/-- A save ends, and what it wrote stands in its copy where the read-back matches (R168). -/
theorem keepsRanges_endSave {k : CopyName} {c : Copy Settings} (h : s.store.writing = some (.save k c)) (good : Bool) :
    KeepsRanges s (endSave k c good s) := by
  refine ⟨id, ?ratios, ?settings⟩
  case ratios =>
    rintro ⟨hpos, hsnapshot, himage, -⟩
    exact ⟨hpos, hsnapshot, himage, fun _ _ hc => by cases hc⟩
  case settings =>
    rintro ⟨hcopy, himage, hwriting, hwaiting⟩
    exact ⟨hcopy, image_readBack_forall himage k (hwriting k c h) good, fun _ _ hc => (by cases hc), hwaiting⟩

/-- A retained write ends, before a mismatch marks the retained state again (R169). -/
def retainedEnded (k : CopyName) (c : Copy Retained) (good : Bool) : State :=
  { s with store :=
      { s.store with
        writing := none
        retainedImage := s.store.retainedImage.set k (if good then some c else none)
        retainedValid := good } }

theorem endRetained_eq (k : CopyName) (c : Copy Retained) (good : Bool) :
    endRetained k c good s = if good then retainedEnded s k c good else markRetained (retainedEnded s k c good) := rfl

theorem proceeds_endRetained (k : CopyName) (c : Copy Retained) (good : Bool) :
    Proceeds (retainedEnded s k c good) (endRetained k c good s) := by
  rw [endRetained_eq]
  split
  · exact .refl _
  · exact (acts_markRetained _).proceeds

theorem keepsRanges_retainedEnded {k : CopyName} {c : Copy Retained} (h : s.store.writing = some (.retained k c))
    (good : Bool) : KeepsRanges s (retainedEnded s k c good) := by
  refine ⟨id, ?ratios, ?settings⟩
  case ratios =>
    rintro ⟨hpos, hsnapshot, himage, hwriting⟩
    exact ⟨hpos, hsnapshot, image_readBack_forall (P := fun (r : Retained) => ratiosOk r.ratios) himage k (hwriting k c h) good,
      fun _ _ hc => by cases hc⟩
  case settings =>
    rintro ⟨hcopy, himage, -, hwaiting⟩
    exact ⟨hcopy, himage, fun _ _ hc => (by cases hc), hwaiting⟩

end

/-! ### The end of an event (R110, R170) -/

theorem keepsRanges_conclude (s₀ s : State) : KeepsRanges s (conclude s₀ s) := by
  have hbatch := (acts_formBatchAfter s s₀).proceeds.toKeepsRanges
  unfold conclude startWriteAfter
  split
  · exact hbatch
  · exact hbatch.trans (keepsRanges_startWrite _)

/-- An event's end starts the write that it has set waiting, so that none waits for a free store (R170). -/
theorem Proceeds.storeLaws_conclude {s₀ s : State} (h : Proceeds s₀ s) (hs : StoreLaws s₀) :
    StoreLaws (conclude s₀ s) := by
  obtain ⟨hfree, hlaws⟩ := (storeLaws_iff s₀).1 hs
  have hstore := formBatchAfter_store s₀ s
  have hlaws' : WaitingLaws (formBatchAfter s₀ s).store := by rw [hstore]; exact h.waiting hlaws
  unfold conclude startWriteAfter
  split
  · next hsame =>
    refine (storeLaws_iff _).2 ⟨fun hw => ?_, hlaws'⟩
    rw [hstore, h.writing] at hw
    rw [hsame, hfree hw]
  · exact storeLaws_startWrite hlaws'

end Sys2Proof.Machine
end

section
/-! PROOFS. The ranges and the store's schedule across requests and events, and that every command keeps them. -/

namespace Sys2Proof.Machine

/-! ### Sweeps, the loop and the receivers -/

section
variable (s : State)

theorem proceeds_startNext : Proceeds s (startNext s) := (acts_startNext s).proceeds

theorem proceeds_takeLeakage (l : Nat) : Proceeds s (takeLeakage l s) := by
  obtain ⟨x, hx⟩ := acts_moveAlarm { s with leakage := { s.leakage with last := l } } l
  have hset : Proceeds s { s with leakage := x } := .of_eq rfl rfl rfl rfl
  exact hset.trans hx.proceeds

theorem proceeds_handRoutine (r : SweepRecord) (l : Nat) : Proceeds s (handRoutine r l s) :=
  ((proceeds_learn s r).trans (Acts.foldl _ (fun s p => acts_takePosition s r p) _ _).proceeds).trans
    (proceeds_takeLeakage _ l)

theorem proceeds_pinCompleted (q : Port) (n : Nat) : Proceeds s (modifyPort q (pinCompleted n) s) :=
  proceeds_modifyPort s q (fun _ => le_rfl)

theorem proceeds_handOver (r : SweepRecord) (run : Running) (l : Nat) : Proceeds s (handOver r run l s) := by
  unfold handOver
  split
  · exact proceeds_handRoutine s r l
  · exact proceeds_pinCompleted s _ _
  · exact proceeds_pinCompleted s _ _
  · exact proceeds_pinCompleted s _ _
  · split
    · exact (acts_walkSweep s l).proceeds
    · exact .refl s

theorem proceeds_completeSweep (r : SweepRecord) (run : Running) (l : Nat) : Proceeds s (completeSweep r run l s) :=
  ((proceeds_setSeq s _).trans (proceeds_handOver _ _ run l)).trans (proceeds_startNext _)

theorem proceeds_trip : Proceeds s (trip s) :=
  (proceeds_setSafety s _ _ _).trans
    (((acts_changeHolder _ _ _ _ _).trans (acts_emit _ _ _ _ _)).trans (acts_abandonWalk _)).proceeds

theorem proceeds_restore : Proceeds s (restore s) :=
  (proceeds_setSafety s _ _ _).trans
    (((acts_changeHolder _ _ _ _ _).trans (acts_emit _ _ _ _ _)).trans (acts_reclosingAfter _ _ _ _ _)).proceeds

theorem applyLink_notices (st : Settings) (l : Option Link) (x : PortState) :
    (applyLink st l x).notices = x.notices := by
  cases l <;> rfl

theorem proceeds_toIdle (q : Port) : Proceeds s (toIdle q s) :=
  proceeds_modifyPort s q (fun _ => by rw [applyLink_notices])

theorem proceeds_receiving (q : Port) (got : List Byte) : Proceeds s (receiving q got s) :=
  proceeds_modifyPort s q (fun _ => le_rfl)

theorem proceeds_toAnswering (q : Port) : Proceeds s (toAnswering q s) := proceeds_modifyPort s q (fun _ => le_rfl)

theorem proceeds_sendAnswer (q : Port) (station code : Byte) (reply : Reply) :
    Proceeds reply.1 (sendAnswer q station code reply) := proceeds_modifyPort _ q (fun _ => le_rfl)

theorem proceeds_addPin (q : Port) (n : Nat) : Proceeds s (addPin q n s) :=
  proceeds_modifyPort s q (fun _ => le_rfl)

theorem proceeds_dropPin (q : Port) (n : Nat) : Proceeds s (dropPin q n s) :=
  proceeds_modifyPort s q (fun _ => le_rfl)

/-- What is fetched leaves fewer notices in the queue (R155). -/
theorem proceeds_fetchNotices (q : Port) : Proceeds s (fetchNotices q s) :=
  proceeds_modifyPort s q (fun x => (List.drop_sublist _ x.notices).length_le)

theorem applyIfIdle_store (l : Link) : (applyIfIdle l s).store = s.store := by
  unfold applyIfIdle
  split <;> rfl

theorem proceeds_applyIfIdle (l : Link) : Proceeds s (applyIfIdle l s) := by
  unfold applyIfIdle
  split
  · exact proceeds_modifyPort s _ (fun x => by rw [applyLink_notices])
  · exact .refl s

/-! ### Settings written (R7 to R12, R167) -/

theorem proceeds_changeRole (c : Contacts) (p : Pos) (r : Role) : ∀ t ∈ changeRole c p r s, Proceeds s t := by
  intro t ht
  unfold changeRole at ht
  split at ht
  · split at ht
    · cases ht
    · cases ht
      exact (proceeds_setRole s p _).trans (acts_leaveSwitching s p _).proceeds
  · cases ht
    exact (proceeds_setRole s p _).trans (acts_enterSwitching c s p).proceeds
  · cases ht
    exact (proceeds_setRole s p _).trans (acts_clearRecord _ p).proceeds

/-- A rewriting of every position that leaves the ratios (R81). -/
theorem proceeds_mapPositions {f : PosState → PosState} (h : ∀ x, (f x).ratio = x.ratio) :
    Proceeds s { s with positions := s.positions.map f } := by
  refine .of_store rfl (fun _ => le_rfl) (fun p hp => ?_) id
  simp only [State.pos, get_map, h]
  exact hp

theorem proceeds_afterNumber (n : Number) (v : Nat) : Proceeds s (afterNumber n v s) := by
  cases n with
  | routineInterval => exact proceeds_setSeq s _
  | trialCount => exact proceeds_mapPositions s (fun _ => rfl)
  | recheckInterval => exact proceeds_mapPositions s (fun _ => rfl)
  | stationP => exact proceeds_applyIfIdle s .p
  | stationS => exact proceeds_applyIfIdle s .s
  | _ => exact .refl s

theorem proceeds_changeSetting (c : Contacts) {x : Setting} {v w : Nat} (hw : x.applied v = some w) :
    ∀ t ∈ changeSetting c x w s, Proceeds s t := by
  intro t ht
  have hput := proceeds_putSetting s hw
  cases x with
  | role p => exact proceeds_changeRole s c p _ t ht
  | peerGroup p => cases ht; exact hput.trans (proceeds_setRatio _ p)
  | number n => cases ht; exact hput.trans (proceeds_afterNumber _ n w)
  | speed l => cases ht; exact hput.trans (proceeds_applyIfIdle _ l)
  | _ => cases ht; exact hput

theorem proceeds_writeApplied (c : Contacts) (code index : Byte) {x : Setting} {v w : Nat} (hw : x.applied v = some w) :
    Proceeds s (writeApplied c code index x w s).1 := by
  unfold writeApplied
  split
  · exact .refl s
  · split
    · next t ht => exact proceeds_changeSetting s c hw t ht
    · exact .refl s

theorem afterNumber_store (n : Number) (v : Nat) : (afterNumber n v s).store = s.store := by
  cases n with
  | stationP => exact applyIfIdle_store s .p
  | stationS => exact applyIfIdle_store s .s
  | _ => rfl

/-- Another setting than a role leaves the store as it is. -/
theorem changeSetting_store (c : Contacts) {x : Setting} (hx : ∀ p, x ≠ .role p) (v : Nat) :
    ∀ t ∈ changeSetting c x v s, t.store = s.store := by
  intro t ht
  cases x with
  | role p => exact absurd rfl (hx p)
  | number n => cases ht; exact afterNumber_store _ n v
  | speed l => cases ht; exact applyIfIdle_store _ l
  | _ => cases ht; rfl

theorem writeApplied_store (c : Contacts) (code index : Byte) {x : Setting} (hx : ∀ p, x ≠ .role p) (v : Nat) :
    (writeApplied c code index x v s).1.store = s.store := by
  unfold writeApplied
  split
  · rfl
  · split
    · next t ht => exact changeSetting_store s c hx v t ht
    · rfl

/-! ### Requests judged (R162) -/

variable {s} in
theorem proceeds_checked {r : Request} {q : Port} {ok : Bool} {f : State → Reply} (h : Proceeds s (f s).1) :
    Proceeds s (checked r q ok f s).1 := by
  rcases checked_cases r q ok f s with he | ⟨he, -, -⟩
  · rw [he]; exact .refl s
  · rw [he]; exact h

theorem proceeds_holdRequest (b : Bool) (q : Port) (body : List Byte) : Proceeds s (holdRequest b q body s).1 := by
  unfold holdRequest
  split
  · exact .refl s
  · exact (acts_changeHolds s _ _ _ _).proceeds

theorem proceeds_judgeCode (c : Contacts) (q : Port) (code : Byte) (body : List Byte) :
    Proceeds s (judgeCode c q code body s).1 := by
  unfold judgeCode
  generalize Request.ofCode code = request
  cases request with
  | none => exact .refl s
  | some r =>
    cases r with
    | readStatus => exact proceeds_checked (.refl s)
    | readPosition => refine proceeds_checked ?_; split <;> exact .refl s
    | readMap => exact proceeds_checked (.refl s)
    | requestSweep =>
      refine proceeds_checked ?_
      split
      · exact .refl s
      · split
        · exact .refl s
        · exact (proceeds_setSeq s _).trans (proceeds_startNext _)
    | pinSweep =>
      refine proceeds_checked ?_
      split
      · exact .refl s
      · split
        · exact .refl s
        · split
          · exact .refl s
          · exact proceeds_addPin s q _
    | readSweep =>
      refine proceeds_checked ?_
      split
      · split <;> exact .refl s
      · exact .refl s
    | unpinSweep =>
      refine proceeds_checked ?_
      split
      · exact proceeds_dropPin s q _
      · exact .refl s
    | placeHold => exact proceeds_checked (proceeds_holdRequest s true q body)
    | releaseHold => exact proceeds_checked (proceeds_holdRequest s false q body)
    | clearFault =>
      refine proceeds_checked ?_
      split
      · exact (acts_clearFault s _).proceeds
      · exact .refl s
    | clearSwitch =>
      refine proceeds_checked ?_
      split
      · exact (acts_clearSwitch s c _).proceeds
      · exact .refl s
    | startLocate =>
      refine proceeds_checked ?_
      split
      · exact .refl s
      · split
        · exact .refl s
        · exact (acts_startWalk s _).proceeds
    | readWalk => exact proceeds_checked (.refl s)
    | fetchNotices => exact proceeds_checked (proceeds_fetchNotices s q)
    | readSetting => refine proceeds_checked ?_; split <;> exact .refl s
    | writeSetting =>
      refine proceeds_checked ?_
      split
      · next x v hbody =>
        obtain ⟨-, w, hw⟩ := applied_of_bodyWrite hbody
        exact proceeds_writeApplied s c _ _ hw
      · exact .refl s
    | saveSettings =>
      refine proceeds_checked ?_
      split
      · exact .refl s
      · next hnone => exact proceeds_queueSave s (Bool.eq_false_iff.2 hnone)
    | resetRatio =>
      refine proceeds_checked ?_
      split
      · exact proceeds_setRatio s _
      · exact .refl s

/-- The requests that may mark the retained state or queue a save. -/
def Request.stores (r : Request) : Bool := r.orders || r == .saveSettings

variable {s} in
theorem checked_store {r : Request} {q : Port} {ok : Bool} {f : State → Reply} (h : (f s).1.store = s.store) :
    (checked r q ok f s).1.store = s.store := by
  rcases checked_cases r q ok f s with he | ⟨he, -, -⟩
  · rw [he]
  · rw [he]; exact h

/-- The other requests leave the store as it is. -/
theorem judgeCode_store (c : Contacts) (q : Port) {r : Request} (hr : r.stores = false) (body : List Byte) :
    (judgeCode c q r.code body s).1.store = s.store := by
  unfold judgeCode
  rw [ofCode_code]
  cases r with
  | readStatus => exact checked_store rfl
  | readPosition => refine checked_store ?_; split <;> rfl
  | readMap => exact checked_store rfl
  | requestSweep =>
    refine checked_store ?_
    split
    · rfl
    · split
      · rfl
      · exact startNext_store _
  | pinSweep =>
    refine checked_store ?_
    split
    · rfl
    · split
      · rfl
      · split <;> rfl
  | readSweep =>
    refine checked_store ?_
    split
    · split <;> rfl
    · rfl
  | unpinSweep => refine checked_store ?_; split <;> rfl
  | startLocate =>
    refine checked_store ?_
    split
    · rfl
    · split
      · rfl
      · exact nextCandidate_store _
  | readWalk => exact checked_store rfl
  | fetchNotices => exact checked_store rfl
  | readSetting => refine checked_store ?_; split <;> rfl
  | resetRatio => refine checked_store ?_; split <;> rfl
  | _ => cases hr

/-! ### Requests taken, as frames and by the character (R158, R160) -/

theorem proceeds_judgeFrame (q : Port) (station code : Byte) {f : State → Reply} (h : ∀ s, Proceeds s (f s).1) :
    Proceeds s (judgeFrame q station code f s) := by
  unfold judgeFrame
  split
  · exact ((proceeds_toAnswering s q).trans (h _)).trans (proceeds_sendAnswer q station code _)
  · exact proceeds_toIdle s q

theorem proceeds_receiveRequest (q : Port) (station code : Byte) (body : List Byte) {f : State → Reply}
    (h : ∀ s, Proceeds s (f s).1) : Proceeds s (receiveRequest q station code body f s) := by
  unfold receiveRequest
  split
  · exact proceeds_judgeFrame s q station code h
  · exact .refl s

theorem receiveRequest_store (q : Port) (station code : Byte) (body : List Byte) {f : State → Reply}
    (h : ∀ s, (f s).1.store = s.store) : (receiveRequest q station code body f s).store = s.store := by
  unfold receiveRequest judgeFrame
  split
  · split
    · exact h _
    · rfl
  · rfl

theorem proceeds_takeChars (c : Contacts) (q : Port) (chars : List Byte) : Proceeds s (takeChars c q chars s) := by
  unfold takeChars judgeChars
  split
  · split
    · exact proceeds_toIdle s q
    · exact proceeds_receiving s q _
  · split
    · split
      · exact proceeds_judgeFrame s q _ _ (fun s => proceeds_judgeCode s c q _ _)
      · exact proceeds_toIdle s q
    · exact proceeds_receiving s q _

theorem proceeds_takeChar (c : Contacts) (q : Port) (char : Byte) : Proceeds s (takeChar c q char s) := by
  unfold takeChar
  split
  · split
    · exact proceeds_receiving s q _
    · exact .refl s
  · exact proceeds_takeChars s c q _
  · exact .refl s

theorem proceeds_discardFrame (q : Port) : Proceeds s (discardFrame q s) := by
  unfold discardFrame
  split
  · exact proceeds_toIdle s q
  · exact .refl s
  · exact .refl s

theorem discardFrame_store (q : Port) : (discardFrame q s).store = s.store := by
  unfold discardFrame
  split <;> rfl

/-! ### Start-up (R36, R171, R172) -/

/-- An image is loaded from one of its good copies (R171). -/
theorem load_forall {α : Type} {P : α → Prop} {im : Image α} (h : ∀ k c, im.get k = some c → P c.content) :
    ∀ x ∈ im.load, P x := by
  intro x hx
  unfold Image.load at hx
  split at hx
  · obtain ⟨c, hc, rfl⟩ := Option.map_eq_some_iff.1 hx
    exact h _ c hc
  · cases hx

theorem inRange_defaults : Settings.defaults.inRange := fun n => by cases n <;> decide

theorem inRange_loaded {x : Store} (h : storedSettingsOk x) : x.loadedSettings.inRange := by
  unfold Store.loadedSettings
  cases hload : x.settingsImage.load with
  | none => exact inRange_defaults
  | some st => exact load_forall h.1 st hload

theorem ratiosOk_loaded {x : Store} (h : storedRatiosOk x) : ratiosOk x.loadedRetained.ratios := by
  obtain ⟨-, himage, -⟩ := h
  unfold Store.loadedRetained
  cases hload : x.retainedImage.load with
  | none => exact fun p => by rw [Option.getD_none, Retained.blank, get_replicate]; exact ratioOk_unit
  | some r => exact load_forall (P := fun (r : Retained) => ratiosOk r.ratios) himage r hload

/-- The state in which the start-up sequence reconciles (R172, steps 1 to 6). -/
def started (c : Contacts) (loopClosed keyOn : Bool) : State :=
  startState c loopClosed keyOn (settled s.store.loadedSettings s.store.loadedRetained) s.store.loadedRetained s

section
variable (c : Contacts) (loopClosed keyOn : Bool)

theorem keepsRanges_started : KeepsRanges s (started s c loopClosed keyOn) := by
  refine ⟨fun _ q => ?notices, ?ratios, ?settings⟩
  case notices => cases q <;> exact Nat.zero_le _
  case ratios =>
    rintro ⟨-, hstored⟩
    have hloaded := ratiosOk_loaded hstored
    refine ⟨fun p => ?_, hloaded, hstored.2.1, fun _ _ hc => by cases hc⟩
    simp only [started, startState, State.pos, tabulate_get]
    exact hloaded p
  case settings =>
    rintro ⟨-, hstored⟩
    exact ⟨inRange_loaded hstored, hstored.1, fun _ _ hc => (by cases hc), fun _ hst => by cases hst⟩

theorem proceeds_reconciled : Proceeds (started s c loopClosed keyOn) (startUp c loopClosed keyOn s) :=
  ((acts_takeTargets _ _).trans (acts_formBatch _)).proceeds

end

end

/-! ### What leaves the store as it is -/

section
variable (s : State)

theorem formBatch_store : (formBatch s).store = s.store := by rw [formBatch_rest]

theorem holdSuspicion_store (p : Pos) : (holdSuspicion p s).store = s.store := by
  unfold holdSuspicion
  split <;> rfl

theorem confirmTrial_store (p : Pos) : (confirmTrial p s).store = s.store := by
  unfold confirmTrial
  split <;> rfl

theorem confirmRecovery_store (p : Pos) : (confirmRecovery p s).store = s.store := by
  unfold confirmRecovery
  split <;> rfl

theorem rise_store (n : Nat) : (rise n s).store = s.store := by
  unfold rise enterAlarm
  split
  · dsimp only
    split
    · exact nextCandidate_store _
    · rfl
  · rfl

theorem fall_store (n : Nat) : (fall n s).store = s.store := by
  unfold fall
  split <;> rfl

theorem takeLeakage_store (l : Nat) : (takeLeakage l s).store = s.store := by
  unfold takeLeakage moveAlarm
  split
  · split
    · exact rise_store _ _
    · exact rise_store _ _
    · rfl
    · rfl
  · split
    · split
      · rfl
      · rfl
      · exact fall_store _ _
      · exact fall_store _ _
    · rfl

end

/-! ### Every command -/

/-- The four laws of the obligation, each kept alone. -/
structure KeepsLaws (s t : State) : Prop extends KeepsRanges s t where
  store : StoreLaws s → StoreLaws t

/-- Whatever state an outcome leads to, the laws are kept there. -/
def LawsKeptBy (s : State) (o : Host.Outcome State Fault Refusal) : Prop := ∀ t, o = .next t → KeepsLaws s t

theorem LawsKeptBy.next {s t : State} (h : KeepsLaws s t) : LawsKeptBy s (.next t) := by
  intro u hu
  cases hu
  exact h

/-- What leaves the store as it is keeps its schedule. -/
theorem LawsKeptBy.quiet {s t : State} (h : Proceeds s t) (hstore : t.store = s.store) : LawsKeptBy s (.next t) :=
  .next ⟨h.toKeepsRanges, by rw [storeLaws_iff, storeLaws_iff, hstore]; exact id⟩

theorem LawsKeptBy.stay (s : State) : LawsKeptBy s (.next s) := .quiet (.refl s) rfl

/-- An event ends, and starts the write it has set waiting (R110, R170). -/
theorem LawsKeptBy.concluded {s t : State} (h : Proceeds s t) : LawsKeptBy s (.next (conclude s t)) :=
  .next ⟨h.toKeepsRanges.trans (keepsRanges_conclude s t), h.storeLaws_conclude⟩

theorem LawsKeptBy.ite {s : State} {c : Prop} [Decidable c] {o o' : Host.Outcome State Fault Refusal}
    (h : LawsKeptBy s o) (h' : LawsKeptBy s o') : LawsKeptBy s (if c then o else o') := by
  split
  · exact h
  · exact h'

/-! ### The request rows -/

/-- A request that does not touch the store. -/
theorem laws_quiet {r : Request} (hr : r.stores = false) (c : Contacts) (q : Port) (station : Byte) (body : List Byte)
    (s : State) : LawsKeptBy s (.next (receiveRequest q station r.code body (judgeCode c q r.code body) s)) :=
  .quiet (proceeds_receiveRequest s q station r.code body (fun s => proceeds_judgeCode s c q r.code body))
    (receiveRequest_store s q station r.code body (fun s => judgeCode_store s c q hr body))

/-- A request that ends as an event. -/
theorem laws_event (c : Contacts) (q : Port) (station code : Byte) (body : List Byte) (s : State) :
    LawsKeptBy s (.next (conclude s (receiveRequest q station code body (judgeCode c q code body) s))) :=
  .concluded (proceeds_receiveRequest s q station code body (fun s => proceeds_judgeCode s c q code body))

theorem judgeWriteSetting_store (c : Contacts) (q : Port) {code : Nat} (hcode : (byte code).toNat ≠ 0x20)
    (rest : List Byte) (s : State) : (judgeWriteSetting c q (byte code :: rest) s).1.store = s.store := by
  refine checked_store ?_
  split
  · next x v hbody =>
    refine writeApplied_store s c _ _ (fun p hp => ?_) v
    obtain ⟨hsetting, -⟩ := applied_of_bodyWrite hbody
    obtain ⟨-, hnamed⟩ := Option.ite_none_right_eq_some.1 hsetting
    exact hcode (code_of_role (hp ▸ hnamed))
  · rfl

/-- A Write Setting of another setting than a role does not touch the store. -/
theorem laws_write (q : Port) (station : Byte) {code : Nat} (hcode : (byte code).toNat ≠ 0x20) (index : Byte)
    (value : Half) (s : State) : LawsKeptBy s (.next (receiveWrite noContacts q station code index value s)) :=
  .quiet (proceeds_receiveRequest s q station 0x51 _ (fun s => proceeds_judgeCode s noContacts q 0x51 _))
    (receiveRequest_store s q station 0x51 _ (fun s => judgeWriteSetting_store noContacts q hcode _ s))

/-- Every request row keeps the laws: those that may mark the retained state or queue a save end as an event. -/
theorem laws_request {c : Instr} {f : RequestFrame} (h : requestOf c = some f) (s : State) : LawsKeptBy s (exec c s) := by
  cases c with
  | readStatus q st b => exact laws_quiet (r := .readStatus) rfl 0 q st b s
  | readPosition q st b => exact laws_quiet (r := .readPosition) rfl 0 q st b s
  | readMap q st b => exact laws_quiet (r := .readMap) rfl 0 q st b s
  | readWalk q st b => exact laws_quiet (r := .readWalk) rfl 0 q st b s
  | requestSweep q st b => exact laws_quiet (r := .requestSweep) rfl 0 q st b s
  | pinSweep q st b => exact laws_quiet (r := .pinSweep) rfl 0 q st b s
  | readSweep q st b => exact laws_quiet (r := .readSweep) rfl 0 q st b s
  | unpinSweep q st b => exact laws_quiet (r := .unpinSweep) rfl 0 q st b s
  | placeHold q st b => exact laws_event 0 q st 0x20 b s
  | releaseHold q st b => exact laws_event 0 q st 0x21 b s
  | clearFault q st b => exact laws_event 0 q st 0x22 b s
  | clearSwitch q st b c => exact laws_event c q st 0x23 b s
  | startLocate q st b => exact laws_event 0 q st 0x30 b s
  | fetchNotices q st b => exact laws_quiet (r := .fetchNotices) rfl 0 q st b s
  | readSetting q st b => exact laws_quiet (r := .readSetting) rfl 0 q st b s
  | writeSetting q st b c => exact laws_event c q st 0x51 b s
  | writeRole q st i v c => exact laws_event c q st 0x51 _ s
  | writePeerGroup q st i v => exact laws_write q st (by decide) i v s
  | writeExclusionFlag q st i v => exact laws_write q st (by decide) i v s
  | writeBlendWeight q st i v => exact laws_write q st (by decide) i v s
  | writeRoutineInterval q st i v => exact laws_write q st (by decide) i v s
  | writeQualifierSetting q st w i v => exact laws_write q st (by cases w <;> decide) i v s
  | writeLearningEnable q st i v => exact laws_write q st (by decide) i v s
  | writeSwitchTiming q st w i v => exact laws_write q st (by cases w <;> decide) i v s
  | writeRestoreDelay q st i v => exact laws_write q st (by decide) i v s
  | writeLeakageSetting q st w i v => exact laws_write q st (by cases w <;> decide) i v s
  | writeWalkSetting q st w i v => exact laws_write q st (by cases w <;> decide) i v s
  | writeLinkSetting q st w l i v => exact laws_write q st (by cases w <;> cases l <;> decide) i v s
  | writeSubscription q st r i v => exact laws_write q st (by cases r <;> decide) i v s
  | saveSettings q st b => exact laws_event 0 q st 0x52 b s
  | resetRatio q st b => exact laws_quiet (r := .resetRatio) rfl 0 q st b s
  | unknownRequestCode q st k b =>
    exact .ite (.stay s) (.quiet (proceeds_receiveRequest s q st k b (fun s => .refl s))
      (receiveRequest_store s q st k b (fun _ => rfl)))
  | _ => cases h

/-! ### The other commands -/

section
variable (s : State)

/-- A waiting write starts on its own row (R170). -/
theorem laws_startWrite : LawsKeptBy s (.next (startWrite s)) :=
  .next ⟨keepsRanges_startWrite s, fun hs => storeLaws_startWrite ((storeLaws_iff s).1 hs).2⟩

theorem laws_saveComplete {k : CopyName} {c : Copy Settings} (h : s.store.writing = some (.save k c)) (good : Bool) :
    LawsKeptBy s (.next (startWrite (endSave k c good s))) := by
  refine .next ⟨(keepsRanges_endSave s h good).trans (keepsRanges_startWrite _), fun hs => storeLaws_startWrite ?_⟩
  obtain ⟨-, hretained, hsaves⟩ := (storeLaws_iff s).1 hs
  exact ⟨hretained, (Nat.le_add_right _ _).trans hsaves⟩

theorem laws_retainedWriteComplete {k : CopyName} {c : Copy Retained} (h : s.store.writing = some (.retained k c))
    (good : Bool) : LawsKeptBy s (.next (startWrite (endRetained k c good s))) := by
  have hmark := proceeds_endRetained s k c good
  refine .next ⟨((keepsRanges_retainedEnded s h good).trans hmark.toKeepsRanges).trans (keepsRanges_startWrite _),
    fun hs => storeLaws_startWrite (hmark.waiting ?_)⟩
  obtain ⟨-, hretained, hsaves⟩ := (storeLaws_iff s).1 hs
  exact ⟨hretained, (Nat.le_add_right _ _).trans hsaves⟩

/-- RESET leaves no write waiting or under way (R168, R169). -/
theorem laws_reset (c : Contacts) (loopClosed keyOn : Bool) : LawsKeptBy s (exec (.reset c loopClosed keyOn) s) := by
  refine .next ⟨(keepsRanges_started s c loopClosed keyOn).trans
    (proceeds_reconciled s c loopClosed keyOn).toKeepsRanges, fun _ => ?_⟩
  have hstore : (startUp c loopClosed keyOn s).store = (started s c loopClosed keyOn).store := by
    rw [startUp, reconcileAll, formBatch_store]
    exact foldl_stands State.store (fun _ _ => takeTarget_store _ _) _ _
  rw [storeLaws_iff, hstore]
  exact ⟨fun _ => rfl, Nat.zero_le 1, Nat.zero_le 1⟩

end

/-- Every command that is no request row keeps the laws. -/
theorem laws_command {c : Instr} (h : requestOf c = none) (s : State) : LawsKeptBy s (exec c s) := by
  cases c with
  | frameDiscarded q => exact .ite (.quiet (proceeds_toIdle s q) rfl) (.stay s)
  | lengthDiscard q => exact .ite (.quiet (proceeds_toIdle s q) rfl) (.stay s)
  | characterGapTimeout q => exact .quiet (proceeds_discardFrame s q) (discardFrame_store s q)
  | characterError q => exact .quiet (proceeds_discardFrame s q) (discardFrame_store s q)
  | answerSent q =>
    simp only [exec, execAnswerSent]
    split
    · exact .quiet (proceeds_toIdle s q) rfl
    · exact .stay s
    · exact .stay s
  | reset c loopClosed keyOn => exact laws_reset s c loopClosed keyOn
  | loopOpening =>
    simp only [exec, execLoopOpening]
    split
    · exact .concluded (proceeds_trip s)
    · exact .quiet (proceeds_setSafety s _ _ _) rfl
    · exact .stay s
  | loopClosing =>
    simp only [exec, execLoopClosing]
    split
    · exact .quiet (proceeds_setSafety s _ _ _) rfl
    · exact .stay s
    · exact .stay s
  | restoreTimerExpiry =>
    simp only [exec, execRestoreTimerExpiry]
    split
    · exact .concluded ((proceeds_advanceTo s _).trans (proceeds_restore _))
    · exact .stay s
  | keyChange => exact .quiet (.of_eq rfl rfl rfl rfl) rfl
  | routineTimerExpiry =>
    have hrearm : Proceeds s (rearmRoutine (advanceTo (s.seq.routineDue * 1000) s)) := .of_eq rfl rfl rfl rfl
    exact .ite (.quiet hrearm rfl)
      (.quiet ((hrearm.trans (proceeds_setSeq _ _)).trans (proceeds_startNext _)) (startNext_store _))
  | sweepStart => exact .quiet (proceeds_startNext s) (startNext_store s)
  | channelBurstComplete v =>
    simp only [exec, execChannelBurstComplete]
    split
    · exact .ite (.quiet (proceeds_setSeq s _) rfl) (.stay s)
    · exact .stay s
  | sweepComplete v =>
    simp only [exec, execSweepComplete]
    split
    · exact .ite (.concluded (proceeds_completeSweep s _ _ _)) (.stay s)
    · exact .stay s
  | declaration p c => exact .ite (.concluded (acts_countAbnormal s p c).proceeds) (.stay s)
  | suspicionAbandoned p => exact .ite (.quiet (acts_holdSuspicion s p).proceeds (holdSuspicion_store s p)) (.stay s)
  | recheckTimerExpiry p => exact .ite (.concluded (acts_recheckExpired s p).proceeds) (.stay s)
  | trialSuccess p => exact .ite (.quiet (acts_confirmTrial s p).proceeds (confirmTrial_store s p)) (.stay s)
  | reportedRecovery p => exact .ite (.quiet (acts_confirmRecovery s p).proceeds (confirmRecovery_store s p)) (.stay s)
  | residualDebounceReached p => exact .ite (.concluded (acts_countResidual s p).proceeds) (.stay s)
  | leakageAlarmEntry l => exact .ite (.quiet (proceeds_takeLeakage s _) (takeLeakage_store s _)) (.stay s)
  | leakageAlarmClear l => exact .ite (.quiet (proceeds_takeLeakage s _) (takeLeakage_store s _)) (.stay s)
  | settleTimerExpiry =>
    simp only [exec, execSettleTimerExpiry]
    split
    · have hwalk (w : Walk) (due : Nat) : Proceeds s { advanceTo due s with walk := w } := .of_eq rfl rfl rfl rfl
      exact .quiet ((hwalk _ _).trans (acts_requestLocate _).proceeds) (requestLocate_store _)
    · exact .stay s
  | batchStart => exact .quiet (acts_formBatch s).proceeds (formBatch_store s)
  | bypassSettleExpiry =>
    simp only [exec, execBypassSettleExpiry]
    split
    · exact .ite (.quiet (.of_eq rfl rfl rfl rfl) rfl) (.stay s)
    · exact .stay s
  | coilPulseEnd =>
    simp only [exec, execCoilPulseEnd]
    split
    · exact .ite (.quiet (.of_eq rfl rfl rfl rfl) rfl) (.ite (.quiet (.of_eq rfl rfl rfl rfl) rfl) (.stay s))
    · exact .stay s
  | nonOverlapExpiry =>
    simp only [exec, execNonOverlapExpiry]
    split
    · exact .ite (.quiet (.of_eq rfl rfl rfl rfl) rfl) (.stay s)
    · exact .stay s
  | batchCompletion c =>
    simp only [exec, execBatchCompletion]
    split
    · exact .ite (.concluded ((proceeds_advanceTo s _).trans (acts_completeBatch _ c _).proceeds)) (.stay s)
    · exact .stay s
  | hourlyRatioMark =>
    exact .concluded (((proceeds_advanceTo s _).trans (proceeds_snapshotRatios _)).trans (acts_markRetained _).proceeds)
  | saveWriteStart =>
    simp only [exec, execSaveWriteStart]
    split
    · exact laws_startWrite s
    · exact .stay s
  | saveComplete good =>
    simp only [exec, execSaveComplete]
    split
    · next hwriting => exact laws_saveComplete s hwriting good
    · exact .stay s
  | retainedWriteStart =>
    simp only [exec, execRetainedWriteStart]
    split
    · exact laws_startWrite s
    · exact .stay s
  | retainedWriteComplete good =>
    simp only [exec, execRetainedWriteComplete]
    split
    · next hwriting => exact laws_retainedWriteComplete s hwriting good
    · exact .stay s
  | characterReceived q char c => exact .concluded (proceeds_takeChar s c q char)
  | unknownRequestCode q station code body =>
    have hknown : (Request.ofCode code).isSome = true := by
      by_contra hk
      rw [requestOf, if_neg hk] at h
      cases h
    simp only [exec, execUnknownRequestCode, if_pos hknown]
    exact .stay s
  | _ => cases h

/-- Settles O58: request rows and all other commands keep each of the four laws. -/
theorem rangesAndScheduleKept : Obligations.RangesAndScheduleKept := by
  intro c s t he
  have hkept : LawsKeptBy s (exec c s) := by
    cases hc : requestOf c with
    | some f => exact laws_request hc s
    | none => exact laws_command hc s
  obtain ⟨⟨hnotices, hratios, hsettings⟩, hstore⟩ := hkept t he
  exact ⟨hnotices, hratios, hsettings, hstore⟩

end Sys2Proof.Machine
end

section
/-! PROOFS. Every request row as its frame judged by its Code, ending as an event (R110, R158, R160, R162, R170), and
the read requests that such a judgement answers (R163, R165). -/

namespace Sys2Proof.Machine

/-! ### Every request row ends as an event -/

/-- A request that may neither change orders nor touch the store calls for no batch and no write at its end. -/
theorem next_quiet {r : Request} (hr : r.stores = false) (c : Contacts) (q : Port) (station : Byte) (body : List Byte)
    (s : State) :
    let t := receiveRequest q station r.code body (judgeCode c q r.code body) s
    (.next t : Host.Outcome State Fault Refusal) = .next (conclude s t) := by
  have horders : r.orders = false := (Bool.or_eq_false_iff.1 hr).1
  have hdrive (u : State) : DriveStands u (judgeCode c q r.code body u).1 := by
    refine stands_judgeCode u c q body (fun r' h => ?_)
    rw [ofCode_code] at h
    cases h
    exact horders
  exact congrArg _ (conclude_id (stands_receiveRequest s q station r.code body hdrive).drive
    (receiveRequest_store s q station r.code body (fun u => judgeCode_store u c q hr body))).symm

/-- Nor does a Write Setting of another setting than a role. -/
theorem next_write (q : Port) (station : Byte) {code : Nat} (hcode : (byte code).toNat ≠ 0x20) (index : Byte)
    (value : Half) (s : State) :
    let t := receiveWrite noContacts q station code index value s
    (.next t : Host.Outcome State Fault Refusal) = .next (conclude s t) :=
  congrArg _ (conclude_id (stands_receiveWrite noContacts q station hcode index value s).drive
    (receiveRequest_store s q station 0x51 _ (fun u => judgeWriteSetting_store noContacts q hcode _ u))).symm

theorem judgeCode_unknown {code : Byte} (h : Request.ofCode code = none) (c : Contacts) (q : Port)
    (body : List Byte) : judgeCode c q code body = refuse .unknownRequest := by
  unfold judgeCode
  rw [h]

/-- Every request row is its frame judged by its Code, as an event: the rows that do not say so form no batch and start
no write (R110, R162, R170). -/
theorem exec_request_event {c : Instr} {f : RequestFrame} (h : requestOf c = some f) (s : State) :
    exec c s = .next (conclude s
      (receiveRequest f.port f.station f.code f.body (judgeCode f.contacts f.port f.code f.body) s)) := by
  cases c with
  | readStatus => cases h; exact next_quiet (r := .readStatus) rfl _ _ _ _ s
  | readPosition => cases h; exact next_quiet (r := .readPosition) rfl _ _ _ _ s
  | readMap => cases h; exact next_quiet (r := .readMap) rfl _ _ _ _ s
  | readWalk => cases h; exact next_quiet (r := .readWalk) rfl _ _ _ _ s
  | requestSweep => cases h; exact next_quiet (r := .requestSweep) rfl _ _ _ _ s
  | pinSweep => cases h; exact next_quiet (r := .pinSweep) rfl _ _ _ _ s
  | readSweep => cases h; exact next_quiet (r := .readSweep) rfl _ _ _ _ s
  | unpinSweep => cases h; exact next_quiet (r := .unpinSweep) rfl _ _ _ _ s
  | fetchNotices => cases h; exact next_quiet (r := .fetchNotices) rfl _ _ _ _ s
  | readSetting => cases h; exact next_quiet (r := .readSetting) rfl _ _ _ _ s
  | resetRatio => cases h; exact next_quiet (r := .resetRatio) rfl _ _ _ _ s
  | writePeerGroup => cases h; exact next_write _ _ (by decide) _ _ s
  | writeExclusionFlag => cases h; exact next_write _ _ (by decide) _ _ s
  | writeBlendWeight => cases h; exact next_write _ _ (by decide) _ _ s
  | writeRoutineInterval => cases h; exact next_write _ _ (by decide) _ _ s
  | writeLearningEnable => cases h; exact next_write _ _ (by decide) _ _ s
  | writeRestoreDelay => cases h; exact next_write _ _ (by decide) _ _ s
  | writeQualifierSetting _ _ which => cases h; exact next_write _ _ (by cases which <;> decide) _ _ s
  | writeSwitchTiming _ _ which => cases h; exact next_write _ _ (by cases which <;> decide) _ _ s
  | writeLeakageSetting _ _ which => cases h; exact next_write _ _ (by cases which <;> decide) _ _ s
  | writeWalkSetting _ _ which => cases h; exact next_write _ _ (by cases which <;> decide) _ _ s
  | writeLinkSetting _ _ which link => cases h; exact next_write _ _ (by cases which <;> cases link <;> decide) _ _ s
  | writeSubscription _ _ subscriber => cases h; exact next_write _ _ (by cases subscriber <;> decide) _ _ s
  | unknownRequestCode q station code body =>
    obtain ⟨hcode, ⟨⟩⟩ := Option.ite_none_left_eq_some.1 h
    have hjudge := judgeCode_unknown (Option.not_isSome_iff_eq_none.1 hcode) 0 q body
    simp only [exec, execUnknownRequestCode, if_neg hcode, hjudge]
    exact congrArg _ (conclude_id (stands_receiveRequest s q station code body (fun u => .refl u)).drive
      (receiveRequest_store s q station code body (fun _ => rfl))).symm
  | _ => cases h <;> rfl

/-- A request row that is ready and whose judgement changes nothing leaves its answer alone (R158, R160). -/
theorem exec_request_answered {c : Instr} {f : RequestFrame} {s : State} {out : List Byte} (h : requestOf c = some f)
    (hr : Ready f.port f.station f.code f.body s)
    (hj : judgeCode f.contacts f.port f.code f.body (toAnswering f.port s) = (toAnswering f.port s, out)) :
    exec c s = .next (answered f.port f.station f.code out s) := by
  rw [exec_request_event h, receiveRequest_ready hr, takeRequest_quiet hj, conclude_answered rfl rfl]

/-! ### Read Status, Read Map and Read Walk (R163, R165) -/

section
variable (q : Port) (s : State)

theorem judgeReadStatus_empty : judgeReadStatus q [] s = (s, 0x00 :: statusBody q s) :=
  checked_passes (by cases q <;> rfl) rfl (by cases q <;> rfl) _ s

theorem judgeReadMap_empty : judgeReadMap q [] s = (s, 0x00 :: mapBody s) :=
  checked_passes (by cases q <;> rfl) rfl (by cases q <;> rfl) _ s

theorem judgeReadWalk_empty : judgeReadWalk q [] s = (s, 0x00 :: walkBody s.walk) :=
  checked_passes (by cases q <;> rfl) rfl (by cases q <;> rfl) _ s

/-- The status read is the same once the port has moved into ANSWERING. -/
theorem statusBody_toAnswering : statusBody q (toAnswering q s) = statusBody q s := by
  cases q <;> rfl

end

theorem maskBytes_mem (l : List Pos) : maskBytes (fun p => l.contains p) = maskBytes (fun p => decide (p ∈ l)) := by
  simp only [List.contains_eq_mem]

/-- Settles O5: READ_STATUS is the answer `statusBody`. -/
theorem statusRead : Obligations.StatusRead := by
  refine ⟨fun q station s h => ?_, rfl, rfl, rfl, rfl⟩
  intro inCondition x
  have hjudge := judgeReadStatus_empty q (toAnswering q s)
  rw [statusBody_toAnswering] at hjudge
  exact exec_request_answered (f := ⟨q, station, 0x01, [], 0⟩) rfl h hjudge

/-- Settles O7: READ_MAP is the answer `mapBody`, READ_WALK the answer `walkBody`. -/
theorem mapAndWalkRead : Obligations.MapAndWalkRead := by
  refine ⟨fun q station s => ⟨fun h => ?map, fun h => ?walk⟩, rfl, rfl, rfl⟩
  case map =>
    exact exec_request_answered (f := ⟨q, station, 0x03, [], 0⟩) rfl h (judgeReadMap_empty q (toAnswering q s))
  case walk =>
    have hjudge := judgeReadWalk_empty q (toAnswering q s)
    rw [toAnswering_walk, walkBody, maskBytes_mem] at hjudge
    exact exec_request_answered (f := ⟨q, station, 0x31, [], 0⟩) rfl h hjudge

end Sys2Proof.Machine
end

section
/-! PROOFS. The checks of a request in the order of R162, with the permissions of Table 10-2, and the frame of an answer
(R158 to R160). -/

namespace Sys2Proof.Machine

/-! ### The form of a Body (R162, step 3) -/

theorem ofNumber_isSome (n : Nat) : (Pos.ofNumber n).isSome = (decide (1 ≤ n) && decide (n ≤ 24)) := by
  unfold Pos.ofNumber
  split <;> simp_all

/-- A Body names a position where it is one character that is a position number. -/
theorem bodyPosition_isSome (body : List Byte) : (bodyPosition body).isSome = Request.bodyOk.oneNumber body := by
  match body with
  | [] => rfl
  | [b] => exact ofNumber_isSome b.toNat
  | _ :: _ :: _ => rfl

theorem partOfCode_isSome (n : Nat) : (Part.ofCode n).isSome = (decide (1 ≤ n) && decide (n ≤ 5)) := by
  match n with
  | 0 | 1 | 2 | 3 | 4 | 5 => rfl
  | n + 6 => simp [Part.ofCode]

/-- The part that the fifth character of a Read Sweep Body names. -/
theorem sweepPart_isSome (body : List Byte) :
    (body.length == 5 && (Part.ofCode (sweepAndPart body).2).isSome) = Request.readSweep.bodyOk body := by
  match body with
  | [a, b, c, d, part] =>
    have hpart : (sweepAndPart [a, b, c, d, part]).2 = part.toNat := by simp [sweepAndPart, ofBytes]
    rw [hpart, partOfCode_isSome]
    rfl
  | [] | [_] | [_, _] | [_, _, _] | [_, _, _, _] => rfl
  | _ :: _ :: _ :: _ :: _ :: _ :: l => simp [Request.bodyOk]

theorem bodySetting_isSome (n : Nat) (body : List Byte) :
    (bodySetting n body).isSome
      = (body.length == n && (Setting.ofCode (body.getD 0 0).toNat (body.getD 1 0).toNat).isSome) := by
  unfold bodySetting
  split <;> simp_all

/-- A Write Setting Body names a setting and a value that the setting applies. -/
theorem bodyWrite_isSome (body : List Byte) : (bodyWrite body).isSome = Request.writeSetting.bodyOk body := by
  match body with
  | [code, index, hi, lo] =>
    have hvalue : ofBytes ([code, index, hi, lo].drop 2) = hi.toNat * 256 + lo.toNat := ofBytes_two hi lo
    have hsetting : bodySetting 4 [code, index, hi, lo] = Setting.ofCode code.toNat index.toNat := rfl
    unfold bodyWrite
    rw [hsetting, hvalue]
    cases hx : Setting.ofCode code.toNat index.toNat <;> simp [Request.bodyOk, hx]
  | [] | [_] | [_, _] | [_, _, _] => rfl
  | _ :: _ :: _ :: _ :: _ :: l => simp [bodyWrite, bodySetting, Request.bodyOk]

/-! ### The checks in their order (R162, Table 10-2) -/

/-- Every request is checked, with its own form of the Body, before it is judged (R162). -/
theorem judgeCode_checked (c : Contacts) (q : Port) (r : Request) (body : List Byte) :
    ∃ f, judgeCode c q r.code body = checked r q (r.bodyOk body) f := by
  unfold judgeCode
  rw [ofCode_code]
  cases r with
  | readPosition => exact ⟨_, congrArg (checked _ q · _) (bodyPosition_isSome body)⟩
  | clearFault => exact ⟨_, congrArg (checked _ q · _) (bodyPosition_isSome body)⟩
  | clearSwitch => exact ⟨_, congrArg (checked _ q · _) (bodyPosition_isSome body)⟩
  | resetRatio => exact ⟨_, congrArg (checked _ q · _) (bodyPosition_isSome body)⟩
  | placeHold => exact ⟨_, congrArg (checked _ q · _) (isMask_eq body)⟩
  | releaseHold => exact ⟨_, congrArg (checked _ q · _) (isMask_eq body)⟩
  | readSweep => exact ⟨_, congrArg (checked _ q · _) (sweepPart_isSome body)⟩
  | readSetting => exact ⟨_, congrArg (checked _ q · _) (bodySetting_isSome 2 body)⟩
  | writeSetting => exact ⟨_, congrArg (checked _ q · _) (bodyWrite_isSome body)⟩
  | _ => exact ⟨_, rfl⟩

/-- Table 10-2 by the Codes that a port refuses. -/
def RefusedOn (q : Port) (code : Byte) : Prop :=
  (q = .linkP ∧ code ∈ ([0x22, 0x23, 0x30, 0x51, 0x52, 0x53] : List Byte)) ∨ (q = .linkS ∧ code = 0x23)

theorem refusedOn_iff (r : Request) (q : Port) : RefusedOn q r.code ↔ r.permitted q = false := by
  unfold RefusedOn
  cases q <;> cases r <;> decide

/-- The Service Port asks for the key by three Codes (R162, step 4). -/
theorem needsKey_service {r : Request} (h : r.code ∈ ([0x20, 0x21, 0x23] : List Byte)) :
    r.needsKey .service = true := by
  revert h
  cases r <;> decide

section
variable {r : Request} {q : Port} {ok : Bool} (f : State → Reply) (s : State)

theorem checked_notPermitted (h : r.permitted q = false) : checked r q ok f s = (s, [0x03]) := by
  unfold checked
  rw [if_pos h]
  rfl

theorem checked_badBody (hpermitted : ¬ r.permitted q = false) (hok : ok = false) :
    checked r q ok f s = (s, [0x02]) := by
  unfold checked
  rw [if_neg hpermitted, if_pos hok]
  rfl

theorem checked_keyOff (hpermitted : ¬ r.permitted q = false) (hok : ok = true) (hneeds : r.needsKey q = true)
    (hkey : s.key = false) : checked r q ok f s = (s, [0x04]) := by
  unfold checked
  rw [if_neg hpermitted, if_neg (by simp [hok]), if_pos (by simp [hneeds, hkey])]
  rfl

end

/-! ### A Code that names no request (R162, step 1) -/

theorem ofCode_isSome_iff (code : Byte) :
    (Request.ofCode code).isSome = true ↔ code ∈ Request.all.map Request.code := by
  simp [Request.ofCode, List.find?_isSome]

/-- A Code of another row's leaves the command without effect (log entry 4). -/
theorem exec_unknown_known {code : Byte} (h : (Request.ofCode code).isSome = true) (q : Port) (station : Byte)
    (body : List Byte) (s : State) : exec (.unknownRequestCode q station code body) s = .next s := if_pos h

theorem exec_unknown {code : Byte} (h : ¬ (Request.ofCode code).isSome = true) {q : Port} {station : Byte}
    {body : List Byte} {s : State} (hr : Ready q station code body s) :
    exec (.unknownRequestCode q station code body) s = .next (answered q station code [0x01] s) :=
  exec_request_answered (f := ⟨q, station, code, body, 0⟩) (if_neg h) hr
    (by rw [judgeCode_unknown (Option.not_isSome_iff_eq_none.1 h)]; rfl)

/-! ### The frame of an answer (R158 to R160, Table 10-6) -/

theorem answerStation_eq (q : Port) (x : PortState) (station : Byte) :
    answerStation q x station = if q = .service then station else byte x.station := by
  cases q <;> rfl

/-- The answer frame: Lead, the characters that the Check covers, and the Check bit by bit (R159). -/
theorem answerFrame_bits (station code : Byte) (body : List Byte) :
    let part := frameHead station ((code ||| 0x80) :: body)
    let bits := part.flatMap (fun c => [7, 6, 5, 4, 3, 2, 1, 0].map c.getLsbD)
    answerFrame station code body = 0xA6 :: part ++ bytes2 (bits.foldl crcBit 0xFFFF).toNat := by
  intro part bits
  rw [← crc16_bits]
  rfl

/-- Settles O9: every request row is `checked` by R162's order, and its answer is `answerFrame`. -/
theorem checksInOrder : Obligations.ChecksInOrder := by
  refine ⟨fun q station code body s => ⟨fun hcode hr => ?unknown, fun hcode => ?known⟩,
    fun c f r s hc hcode hr => ?checks, fun q station code body s hlength => ?answer⟩
  case unknown => exact exec_unknown (mt (ofCode_isSome_iff code).1 hcode) hr
  case known => exact exec_unknown_known ((ofCode_isSome_iff code).2 hcode) q station body s
  case checks =>
    intro refused
    obtain ⟨g, hjudge⟩ := judgeCode_checked f.contacts f.port r f.body
    rw [← hcode] at hjudge
    have hrefused : refused ↔ r.permitted f.port = false := by
      rw [← refusedOn_iff, ← hcode]
      exact Iff.rfl
    refine ⟨fun h => ?_, fun h hbody => ?_, fun h hbody hservice hkeyed hkey => ?_⟩
    · exact exec_request_answered hc hr (by rw [hjudge, checked_notPermitted g _ (hrefused.1 h)])
    · exact exec_request_answered hc hr (by rw [hjudge, checked_badBody g _ (mt hrefused.2 h) hbody])
    · have hneeds : r.needsKey f.port = true := hservice ▸ needsKey_service (hcode ▸ hkeyed)
      have hkeyOff := checked_keyOff g (toAnswering f.port s) (mt hrefused.2 h) hbody hneeds hkey
      exact exec_request_answered hc hr (by rw [hjudge, hkeyOff])
  case answer =>
    intro x part bits check
    have hx : x = { s.ports.get q with
        receiver := .answering, answer := answerFrame (answerStation q (s.ports.get q) station) code body } :=
      modifyPort_get_self q _ s
    rw [hx]
    refine ⟨rfl, ?_⟩
    dsimp only
    rw [answerFrame_bits, answerStation_eq]
    rfl

end Sys2Proof.Machine
end

section
/-! PROOFS. The frame receivers (R158, R159): a character taken in each state of its receiver, the returns to IDLE, and
a frame's characters one by one. -/

namespace Sys2Proof.Machine

/-! ### A character taken (R158) -/

theorem conclude_receiving (q : Port) (got : List Byte) (s : State) :
    conclude s (receiving q got s) = receiving q got s := conclude_id rfl rfl

theorem conclude_toIdle (q : Port) (s : State) : conclude s (toIdle q s) = idled q s :=
  (conclude_id rfl rfl).trans (toIdle_eq_idled q s)

section
variable {q : Port} {ch : Byte} {c : Contacts} {s : State}

theorem exec_character_lead (h : (s.ports.get q).receiver = .idle) :
    exec (.characterReceived q 0xA6 c) s = .next (receiving q [] s) := by
  have htake : takeChar c q 0xA6 s = receiving q [] s := by
    unfold takeChar
    rw [h]
    rfl
  exact congrArg _ ((congrArg _ htake).trans (conclude_receiving q [] s))

/-- A character that changes nothing: in IDLE one that is no Lead, and in ANSWERING any. -/
theorem exec_character_ignored
    (h : (s.ports.get q).receiver = .idle ∧ ch ≠ 0xA6 ∨ (s.ports.get q).receiver = .answering) :
    exec (.characterReceived q ch c) s = .next s := by
  have htake : takeChar c q ch s = s := by
    unfold takeChar
    rcases h with ⟨h, hlead⟩ | h
    · rw [h]; exact if_neg hlead
    · rw [h]
  exact congrArg _ ((congrArg _ htake).trans (conclude_id rfl rfl))

variable {got : List Byte} (h : (s.ports.get q).receiver = .receiving got)
include h

/-- In RECEIVING a character is taken with those before it. -/
theorem exec_character_receiving :
    exec (.characterReceived q ch c) s = .next (conclude s (takeChars c q (got ++ [ch]) s)) := by
  simp only [exec, execCharacterReceived, takeChar, h]

theorem exec_character_kept (hkept : takeChars c q (got ++ [ch]) s = receiving q (got ++ [ch]) s) :
    exec (.characterReceived q ch c) s = .next (receiving q (got ++ [ch]) s) := by
  rw [exec_character_receiving h, hkept, conclude_receiving]

theorem exec_character_discarded (hdiscarded : takeChars c q (got ++ [ch]) s = toIdle q s) :
    exec (.characterReceived q ch c) s = .next (idled q s) := by
  rw [exec_character_receiving h, hdiscarded, conclude_toIdle]

end

/-! ### The characters of a frame so far (R158) -/

/-- Characters after Lead that neither discard their frame by its Length nor make it whole. -/
structure Unfinished (chars : List Byte) : Prop where
  length_good : chars.length = 2 → badLength (chars.getD 1 0) = false
  not_whole : 2 < chars.length → frameComplete chars = false

section
variable {c : Contacts} {q : Port} {chars : List Byte} {s : State}

theorem takeChars_unfinished (h : Unfinished chars) : takeChars c q chars s = receiving q chars s := by
  unfold takeChars
  split
  · next htwo => rw [h.length_good htwo]; rfl
  · rw [if_neg (fun ⟨hlong, hwhole⟩ => by rw [h.not_whole hlong] at hwhole; cases hwhole)]

theorem takeChars_badLength (htwo : chars.length = 2) (h : badLength (chars.getD 1 0) = true) :
    takeChars c q chars s = toIdle q s := by
  unfold takeChars
  rw [if_pos htwo, if_pos h]

theorem takeChars_whole (hlong : 2 < chars.length) (h : frameComplete chars = true) :
    takeChars c q chars s = judgeChars c q chars s := by
  unfold takeChars
  rw [if_neg (by omega), if_pos ⟨hlong, h⟩]

theorem judgeChars_badCheck (h : (crc16 (checkedPart chars)).toNat ≠ checkPart chars) :
    judgeChars c q chars s = toIdle q s := if_neg h

end

theorem frameComplete_iff (chars : List Byte) :
    frameComplete chars = true ↔ chars.length = (chars.getD 1 0).toNat + 4 := decide_eq_true_iff

theorem getD_append_one {got : List Byte} (h : 2 ≤ got.length) (ch : Byte) : (got ++ [ch]).getD 1 0 = got.getD 1 0 :=
  List.getD_append got [ch] 0 1 h

/-- The Check of a whole frame is its last two characters, the newest one of them. -/
theorem check_matches_iff {got : List Byte} (h : got ≠ []) (ch : Byte) :
    (crc16 (checkedPart (got ++ [ch]))).toNat = checkPart (got ++ [ch])
      ↔ bytes2 (crc16 (got.take (got.length - 1))).toNat = got.drop (got.length - 1) ++ [ch] := by
  obtain ⟨front, last, rfl⟩ : ∃ front last, got = front ++ [last] := ⟨_, _, (List.dropLast_append_getLast h).symm⟩
  have hchecked : checkedPart (front ++ [last] ++ [ch]) = front := by simp [checkedPart]
  have hcheck : checkPart (front ++ [last] ++ [ch]) = last.toNat * 256 + ch.toNat := by
    rw [← ofBytes_two]
    simp [checkPart]
  have htake : (front ++ [last]).take ((front ++ [last]).length - 1) = front := by simp
  have hdrop : (front ++ [last]).drop ((front ++ [last]).length - 1) ++ [ch] = [last, ch] := by simp
  rw [hchecked, hcheck, htake, hdrop, bytes2_eq_iff]

/-- Settles O11: a character is ignored, begins a frame, or is taken with those before it, which `takeChars` keeps,
discards or judges. -/
theorem characterTaken : Obligations.CharacterTaken := by
  intro q ch c s received
  refine ⟨fun h hlead => hlead ▸ exec_character_lead h, fun h hlead => exec_character_ignored (.inl ⟨h, hlead⟩),
    fun h => exec_character_ignored (.inr h), fun got h => ⟨fun hnone => ?station, fun hone hbad => ?badLength,
    fun hone hlow hhigh => ?goodLength, fun hlong hpart => ?part, fun hlong hwhole hcheck => ?badCheck⟩⟩
  case station =>
    obtain rfl := List.length_eq_zero_iff.1 hnone
    exact exec_character_kept h (takeChars_unfinished ⟨nofun, nofun⟩)
  case badLength =>
    obtain ⟨station, rfl⟩ := List.length_eq_one_iff.1 hone
    exact exec_character_discarded h (takeChars_badLength rfl ((badLength_iff ch).2 hbad))
  case goodLength =>
    obtain ⟨station, rfl⟩ := List.length_eq_one_iff.1 hone
    refine exec_character_kept h (takeChars_unfinished ⟨fun _ => Bool.eq_false_iff.2 (fun hbad => ?_), nofun⟩)
    have := (badLength_iff ch).1 hbad
    omega
  case part =>
    have hgrown : (got ++ [ch]).length = got.length + 1 := List.length_append
    refine exec_character_kept h (takeChars_unfinished
      ⟨fun htwo => by omega, fun _ => Bool.eq_false_iff.2 (fun hwhole => ?_)⟩)
    rw [frameComplete_iff, getD_append_one hlong, hgrown] at hwhole
    exact hpart hwhole
  case badCheck =>
    have hgrown : (got ++ [ch]).length = got.length + 1 := List.length_append
    have hne : got ≠ [] := List.ne_nil_of_length_pos (by omega)
    refine exec_character_discarded h ((takeChars_whole (by omega) ?_).trans
      (judgeChars_badCheck (mt (check_matches_iff hne ch).1 hcheck)))
    rw [frameComplete_iff, getD_append_one hlong, hgrown]
    exact hwhole

/-! ### The returns to IDLE (R158) -/

theorem stationAccepted_eq_false_iff (q : Port) (x : PortState) (station : Byte) :
    stationAccepted q x station = false ↔ q ≠ .service ∧ station.toNat ≠ x.station := by
  cases q <;> simp [stationAccepted]

section
variable {q : Port} {s : State}

theorem exec_frameDiscarded {station : Byte} {payload : List Byte} {check : Half} (hne : payload ≠ [])
    (hlength : payload.length ≤ 248) (harrives : arrives (s.ports.get q) (frameTail station payload check) = true)
    (hrefused : crc16 (frameHead station payload) ≠ check ∨ (q ≠ .service ∧ station.toNat ≠ (s.ports.get q).station)) :
    exec (.frameDiscarded q station payload check) s = .next (idled q s) := by
  have hframe : frameRefused q (s.ports.get q) station payload check = true := by
    rw [← stationAccepted_eq_false_iff] at hrefused
    simpa [frameRefused] using hrefused
  rw [← toIdle_eq_idled]
  exact if_pos ⟨hne, hlength, harrives, hframe⟩

theorem exec_lengthDiscard {station length : Byte} (hbad : length.toNat = 0 ∨ 248 < length.toNat)
    (harrives : arrives (s.ports.get q) [station, length] = true) :
    exec (.lengthDiscard q station length) s = .next (idled q s) := by
  rw [← toIdle_eq_idled]
  exact if_pos ⟨(badLength_iff length).2 hbad, harrives⟩

/-- A gap and a bad character discard a frame in progress alone; an answer sent ends one alone (log entry 4). -/
theorem exec_receiver_event (q : Port) (s : State) :
    exec (.characterGapTimeout q) s = .next (discardFrame q s) ∧ exec (.characterError q) s = .next (discardFrame q s)
      ∧ exec (.answerSent q) s = .next (if (s.ports.get q).receiver = .answering then idled q s else s) := by
  refine ⟨rfl, rfl, ?_⟩
  simp only [exec, execAnswerSent, ← toIdle_eq_idled]
  cases (s.ports.get q).receiver <;> rfl

theorem discardFrame_receiving {got : List Byte} (h : (s.ports.get q).receiver = .receiving got) :
    discardFrame q s = idled q s := by
  unfold discardFrame
  rw [h]
  exact toIdle_eq_idled q s

theorem discardFrame_other (h : ∀ got, (s.ports.get q).receiver ≠ .receiving got) : discardFrame q s = s := by
  unfold discardFrame
  split
  · next got hgot => exact absurd hgot (h got)
  · rfl
  · rfl

end

/-! ### Request rows that are not taken (R158) -/

section
variable {c : Instr} {f : RequestFrame} {s : State} (hc : requestOf c = some f)
include hc

theorem exec_request_answering (h : (s.ports.get f.port).receiver = .answering) : exec c s = .next s := by
  have harrives : ¬ arrives (s.ports.get f.port) (goodFrame f.station (f.code :: f.body)) = true := by
    simp [arrives, h]
  rw [exec_request_event hc, receiveRequest, if_neg (fun hr => harrives hr.2), conclude_id rfl rfl]

/-- A request row whose frame has arrived is judged as that frame. -/
theorem exec_request_arrived (hlength : f.body.length < 248)
    (harrives : arrives (s.ports.get f.port) (goodFrame f.station (f.code :: f.body)) = true) :
    exec c s = .next (conclude s
      (judgeFrame f.port f.station f.code (judgeCode f.contacts f.port f.code f.body) s)) := by
  rw [exec_request_event hc, receiveRequest, if_pos ⟨hlength, harrives⟩]

theorem exec_request_otherStation (hlength : f.body.length < 248)
    (harrives : arrives (s.ports.get f.port) (goodFrame f.station (f.code :: f.body)) = true)
    (hport : f.port ≠ .service) (hstation : f.station.toNat ≠ (s.ports.get f.port).station) :
    exec c s = .next (idled f.port s) := by
  have hrefused := (stationAccepted_eq_false_iff f.port _ f.station).2 ⟨hport, hstation⟩
  rw [exec_request_arrived hc hlength harrives, judgeFrame, if_neg (Bool.eq_false_iff.1 hrefused),
    conclude_toIdle]

end

/-- Settles O12: each event of a receiver by the receiver's state, and the request rows that are not taken. -/
theorem receiverReturnsToIdle : Obligations.ReceiverReturnsToIdle := by
  refine ⟨fun q s => ?_, fun c f s hc => ⟨exec_request_answering hc, exec_request_otherStation hc⟩⟩
  obtain ⟨hgap, herror, hsent⟩ := exec_receiver_event q s
  rw [hgap, herror, hsent]
  refine ⟨fun station payload check => exec_frameDiscarded, fun station length => exec_lengthDiscard,
    fun got h => ?receiving, fun h => ?idle, fun h => ?answering⟩
  case receiving => simp [discardFrame_receiving h, h]
  case idle =>
    have hstay : discardFrame q s = s := discardFrame_other (by simp [h])
    simp [hstay, h]
  case answering =>
    have hstay : discardFrame q s = s := discardFrame_other (by simp [h])
    simp [hstay, h]

/-! ### A frame character by character (R158, R159; log entry 5) -/

theorem execAll_append {cs : List Instr} {s t : State} (h : execAll cs s = .next t) (ds : List Instr) :
    execAll (cs ++ ds) s = execAll ds t := by
  induction cs generalizing s with
  | nil => cases h; rfl
  | cons c cs ih =>
    simp only [List.cons_append, execAll] at h ⊢
    cases hc : exec c s with
    | next u => rw [hc] at h; exact ih h
    | fault r => rw [hc] at h; cases h
    | refused r => rw [hc] at h; cases h

@[simp] theorem receiving_receiving (q : Port) (got got' : List Byte) (s : State) :
    receiving q got' (receiving q got s) = receiving q got' s := modifyPort_modifyPort q _ _ s

theorem receiving_receiver (q : Port) (got : List Byte) (s : State) :
    ((receiving q got s).ports.get q).receiver = .receiving got := by
  simp [receiving]

/-- Characters that leave a frame unfinished are kept one after another. -/
theorem execAll_unfinished (c : Contacts) (q : Port) (s : State) {got chars : List Byte}
    (h : ∀ part, part <+: chars → Unfinished (got ++ part)) :
    execAll (chars.map (fun ch => .characterReceived q ch c)) (receiving q got s)
      = .next (receiving q (got ++ chars) s) := by
  induction chars generalizing got with
  | nil => simp [execAll]
  | cons ch chars ih =>
    have hfirst : exec (.characterReceived q ch c) (receiving q got s) = .next (receiving q (got ++ [ch]) s) := by
      rw [exec_character_kept (receiving_receiver q got s) (takeChars_unfinished (h [ch] ⟨chars, rfl⟩)),
        receiving_receiving]
    have hrest := ih (got := got ++ [ch]) (fun part ⟨rest, hpart⟩ => by
      rw [List.append_assoc]
      exact h ([ch] ++ part) ⟨rest, congrArg (ch :: ·) hpart⟩)
    rw [List.append_assoc] at hrest
    simp only [List.map_cons, execAll, hfirst]
    exact hrest

/-- A whole frame is judged as though its receiver were as before its first character. -/
theorem judgeFrame_receiving (q : Port) (got : List Byte) (station code : Byte) (f : State → Reply) (s : State) :
    judgeFrame q station code f (receiving q got s) = judgeFrame q station code f s := by
  have hstation : stationAccepted q ((receiving q got s).ports.get q) station
      = stationAccepted q (s.ports.get q) station := by cases q <;> rfl
  have htake : takeRequest q station code f (receiving q got s) = takeRequest q station code f s := by
    have hanswering : toAnswering q (receiving q got s) = toAnswering q s := modifyPort_modifyPort q _ _ s
    unfold takeRequest
    rw [hanswering]
  have hidle : toIdle q (receiving q got s) = toIdle q s := by cases q <;> rfl
  unfold judgeFrame
  rw [hstation, htake, hidle]

section
variable (station code : Byte)

theorem goodFrame_cons (body : List Byte) :
    ∃ hi lo, goodFrame station (code :: body) = station :: byte (body.length + 1) :: code :: (body ++ [hi, lo])
      ∧ bytes2 (crc16 (station :: byte (body.length + 1) :: code :: body)).toNat = [hi, lo] :=
  ⟨_, _, rfl, rfl⟩

theorem length_goodFrame (body : List Byte) : (goodFrame station (code :: body)).length = body.length + 5 := by
  simp [goodFrame, frameTail, frameHead, bytes2]

theorem length_character {body : List Byte} (hlength : body.length < 248) :
    (byte (body.length + 1)).toNat = body.length + 1 := by
  simp [byte]
  omega

variable {body : List Byte} (hlength : body.length < 248)
include hlength

/-- Until its last character a good frame is unfinished. -/
theorem unfinished_part {part : List Byte} (hpart : part <+: goodFrame station (code :: body))
    (hshort : part.length < body.length + 5) : Unfinished part := by
  have hcount (h : 2 ≤ part.length) : (part.getD 1 0).toNat = body.length + 1 := by
    obtain ⟨rest, hrest⟩ := hpart
    rw [← List.getD_append part rest 0 1 h, hrest]
    exact length_character hlength
  refine ⟨fun htwo => Bool.eq_false_iff.2 (fun hbad => ?_), fun hlong => Bool.eq_false_iff.2 (fun hwhole => ?_)⟩
  · have := (badLength_iff _).1 hbad
    have := hcount htwo.ge
    omega
  · have := (frameComplete_iff _).1 hwhole
    have := hcount hlong.le
    omega

theorem takeChars_goodFrame (c : Contacts) (q : Port) (s : State) :
    takeChars c q (goodFrame station (code :: body)) s
      = judgeFrame q station code (judgeCode c q code body) s := by
  obtain ⟨hi, lo, hframe, hcheck⟩ := goodFrame_cons station code body
  have hlong := length_goodFrame station code body
  have hchecked : checkedPart (goodFrame station (code :: body))
      = station :: byte (body.length + 1) :: code :: body := by
    simp [checkedPart, hframe]
  have hmatch : (crc16 (checkedPart (goodFrame station (code :: body)))).toNat
      = checkPart (goodFrame station (code :: body)) := by
    rw [hchecked, (bytes2_eq_iff hi lo _).1 hcheck, ← ofBytes_two]
    simp [checkPart, hframe]
  rw [takeChars_whole (by omega), judgeChars, if_pos hmatch, hchecked, hframe]
  · rfl
  · rw [frameComplete_iff, hlong, hframe]
    simp [length_character hlength]

end

/-- Settles O10: Lead opens the frame, its characters are kept up to the last, and the last has the whole frame judged
as the row is. -/
theorem characterByCharacter : Obligations.CharacterByCharacter := by
  intro c f s hc hlength hidle
  have hlong := length_goodFrame f.station f.code f.body
  obtain ⟨front, last, hframe⟩ : ∃ front last, goodFrame f.station (f.code :: f.body) = front ++ [last] :=
    ⟨_, _, (List.dropLast_append_getLast (List.cons_ne_nil _ _)).symm⟩
  have hfront : front.length + 1 = f.body.length + 5 := by rw [← hlong, hframe, List.length_append]; rfl
  have hkept := execAll_unfinished f.contacts f.port s (got := []) (chars := front) (fun part hpart => by
    have hshort := hpart.length_le
    rw [List.nil_append]
    exact unfinished_part f.station f.code hlength (hframe ▸ hpart.trans ⟨[last], rfl⟩) (by omega))
  have hlast : exec (.characterReceived f.port last f.contacts) (receiving f.port front s) = exec c s := by
    rw [exec_character_receiving (receiving_receiver f.port front s), ← hframe, takeChars_goodFrame _ _ hlength,
      judgeFrame_receiving, exec_request_arrived hc hlength (by simp [arrives, hidle])]
    rfl
  rw [hframe, List.map_cons, List.map_append, execAll, exec_character_lead hidle]
  dsimp only
  rw [execAll_append hkept, List.nil_append, List.map_singleton, execAll, hlast, exec_request_event hc]
  rfl

end Sys2Proof.Machine
end

section
/-! PROOFS. Read Setting, and the rows that write a numeric setting (R22, R81, R157, R167): a written setting reads back
and leaves the others. -/

namespace Sys2Proof.Machine

/-! ### What a written setting leaves of the others (Table 11-1) -/

/-- The kind of a setting: its constructor, whatever number, link, position, group or kind of notice it is for. -/
def Setting.kind : Setting → Nat
  | .number _ => 0
  | .learningEnable => 1
  | .autoWalk => 2
  | .speed _ => 3
  | .role _ => 4
  | .peerGroup _ => 5
  | .exclusion _ => 6
  | .blendWeight _ => 7
  | .subscription _ _ => 8

/-- A write leaves every setting of another kind: the two are different fields of the working copy. -/
theorem value_put_of_other_kind (st : Settings) {x y : Setting} (h : (y.kind == x.kind) = false) (v : Nat) :
    (st.put x v).value y = st.value y := by
  cases x with
  | number n =>
    cases y with
    | number m => cases h
    | speed k => cases k <;> cases n <;> rfl
    | _ => cases n <;> rfl
  | speed l =>
    cases y with
    | number m => cases l <;> cases m <;> rfl
    | speed k => cases h
    | _ => cases l <;> rfl
  | _ =>
    cases y with
    | number m => cases m <;> rfl
    | speed k => cases k <;> rfl
    | _ => cases h <;> rfl

theorem get_set_of_ne {α : Type} {n : Nat} (t : Vector α n) {i j : Fin n} (h : j ≠ i) (a : α) :
    (t.set i a).get j = t.get j := by rw [get_set, if_neg h]

theorem kind_get_set {α : Type} (t : PerKind α) (j k : NoticeKind) (v : α) :
    (t.set k v).get j = if j = k then v else t.get j := by
  cases k <;> cases j <;> rfl

/-- Of the subscriptions, one for each port and notice kind, a replaced one leaves the others. -/
theorem subscription_get_set_of_ne {α : Type} (t : PerPort (PerKind α)) {q r : Port} {j k : NoticeKind}
    (h : r = q → j ≠ k) (v : α) : ((t.set q ((t.get q).set k v)).get r).get j = (t.get r).get j := by
  rw [port_get_set]
  split
  · next hr => rw [kind_get_set, if_neg (h hr), hr]
  · rfl

theorem put_speed_of_ne (st : Settings) {k l : Link} (h : k ≠ l) (v : Nat) :
    (st.put (.speed l) v).speed k = st.speed k := by
  cases l with
  | p =>
    cases k with
    | p => exact absurd rfl h
    | s => rfl
  | s =>
    cases k with
    | p => rfl
    | s => exact absurd rfl h

/-- A setting is left by every write but its own (R167). -/
theorem value_put_of_ne (st : Settings) {x y : Setting} (h : y ≠ x) (v : Nat) :
    (st.put x v).value y = st.value y := by
  cases x <;> cases y
  case number.number n m => exact number_setNumber_of_ne st (fun e => h (congrArg _ e)) v
  case learningEnable.learningEnable => exact absurd rfl h
  case autoWalk.autoWalk => exact absurd rfl h
  case speed.speed l k => exact congrArg LinkSpeed.baud (put_speed_of_ne st (fun e => h (congrArg _ e)) v)
  case role.role p r => exact congrArg Role.code (get_set_of_ne _ (fun e => h (congrArg _ e)) _)
  case peerGroup.peerGroup p r => exact congrArg Fin.val (get_set_of_ne _ (fun e => h (congrArg _ e)) _)
  case exclusion.exclusion p r =>
    exact congrArg (fun b : Bool => if b then 1 else 0) (get_set_of_ne _ (fun e => h (congrArg _ e)) _)
  case blendWeight.blendWeight g k => exact congrArg Fin.val (get_set_of_ne _ (fun e => h (congrArg _ e)) _)
  case subscription.subscription q k r j =>
    exact congrArg Subscription.code (subscription_get_set_of_ne _ (fun hr hj => h (by rw [hr, hj])) _)
  all_goals exact value_put_of_other_kind st rfl v

/-! ### Read Setting (R167) -/

theorem judgeReadSetting_two (q : Port) {code index : Byte} {x : Setting}
    (hx : Setting.ofCode code.toNat index.toNat = some x) (s : State) :
    judgeReadSetting q [code, index] s = (s, 0x00 :: settingBody code index x s) := by
  have hbody : bodySetting 2 [code, index] = some x := hx
  rw [judgeReadSetting, checked_passes (by cases q <;> rfl) (by rw [hbody]; rfl) (by cases q <;> rfl), hbody]
  rfl

/-- Settles O8: READ_SETTING is the answer `settingBody`, and a write changes the value of its own setting alone. -/
theorem settingRead : Obligations.SettingRead := by
  refine ⟨fun q station code index x s h hx => ?read, fun st x y v w hw => ⟨value_put st hw, fun hy => ?others⟩⟩
  case read =>
    exact exec_request_answered (f := ⟨q, station, 0x50, [code, index], 0⟩) rfl h
      (judgeReadSetting_two q hx (toAnswering q s))
  case others => exact value_put_of_ne st hy v

/-! ### The numeric settings (R22, R81, R157) -/

theorem clampNat_eq_max {lo hi : Nat} (h : lo ≤ hi) (v : Nat) : clampNat lo hi v = max lo (min v hi) := by
  unfold clampNat
  split
  · omega
  · split <;> omega

theorem Number.range_ordered (n : Number) : n.range.1 ≤ n.range.2 := by
  cases n <;> decide

/-- But for five of the numbers, a write does nothing more than replace the value. -/
theorem afterNumber_other {n : Number} (h : n ∉ [.routineInterval, .trialCount, .recheckInterval, .stationP, .stationS])
    (v : Nat) (s : State) : afterNumber n v s = s := by
  cases n with
  | routineInterval => exact absurd (by decide) h
  | trialCount => exact absurd (by decide) h
  | recheckInterval => exact absurd (by decide) h
  | stationP => exact absurd (by decide) h
  | stationS => exact absurd (by decide) h
  | _ => rfl

/-- A write that changes a number leaves what `afterNumber` makes of the state with the number replaced. -/
theorem Writes.number_changed {c : Instr} {f : RequestFrame} {code index hi lo : Byte} {n : Number} {s u : State}
    {v : Nat} (W : Writes c f code index hi lo (.number n) s)
    (hv : (Setting.number n).applied (hi.toNat * 256 + lo.toNat) = some v) (hne : v ≠ s.settings.number n)
    (hu : afterNumber n v (toAnswering f.port (putSetting (.number n) v s)) = toAnswering f.port u)
    (hsettings : u.settings = s.settings.setNumber n v) (hdrive : u.drive = s.drive) (hstore : u.store = s.store) :
    exec c s = .next (answered f.port f.station 0x51 (0x00 :: code :: index :: bytes2 v) u) :=
  W.changed hv hne (congrArg some hu) hsettings hdrive hstore

/-- Settles O36: the value is the clamped one, and the change is what `afterNumber` does for the number. -/
theorem numbersWritten : Obligations.NumbersWritten := by
  intro c f code index hi lo n s hrow hcode hbody hport hx hready
  have W : Writes c f code index hi lo (.number n) s := ⟨hrow, hcode, hbody, hport, hx, hready⟩
  intro v st u done
  have hv : (Setting.number n).applied (hi.toNat * 256 + lo.toNat) = some v :=
    congrArg some (clampNat_eq_max n.range_ordered _)
  refine ⟨fun hstands => W.stands hv hstands, fun hne => ⟨?interval, ?trials, ?recheck, ?stationP, ?stationS, ?other⟩⟩
  case interval => rintro rfl; exact W.number_changed hv hne rfl rfl rfl rfl
  case trials => rintro rfl; exact W.number_changed hv hne rfl rfl rfl rfl
  case recheck => rintro rfl; exact W.number_changed hv hne rfl rfl rfl rfl
  case stationP =>
    rintro rfl
    have happly := applyIfIdle_toAnswering .p f.port (putSetting (.number .stationP) v s)
    simp only [ne_eq, hport, Link.port, not_false_eq_true, and_true] at happly
    refine W.number_changed hv hne happly ?_ ?_ ?_ <;> split <;> rfl
  case stationS =>
    rintro rfl
    refine W.number_changed hv hne (applyIfIdle_toAnswering .s f.port (putSetting (.number .stationS) v s)) ?_ ?_ ?_ <;>
      split <;> rfl
  case other => exact fun hn => W.number_changed hv hne (afterNumber_other hn v _) rfl rfl rfl

end Sys2Proof.Machine
end

section
/-! PROOFS. The two copies of an image, a save accepted, and the writes of the Retained Store (R168 to R170). -/

namespace Sys2Proof.Machine

/-! ### The newer copy and the next write (R168, R169) -/

/-- The counts run from 1 to 4,294,967,295 and then from 1 again. -/
theorem eq_nextCount_iff {n : Nat} (h : n ≤ 4294967295) (m : Nat) :
    m = nextCount n ↔ if n = 4294967295 then m = 1 else m = n + 1 := by
  have hmax : Config.maxCount32 = 4294967295 := rfl
  unfold nextCount
  split <;> split <;> omega

/-- No count follows the one that follows it. -/
theorem nextCount_asymm {m n : Nat} (h : m = nextCount n) : n ≠ nextCount m := by
  subst h
  have hmax : Config.maxCount32 = 4294967295 := rfl
  unfold nextCount
  split <;> split <;> omega

section
variable {α : Type} {a b : Copy α}

theorem newer_of_follows (h : a.count = nextCount b.count) : (⟨some a, some b⟩ : Image α).newer = some .copy1 :=
  if_pos h

theorem newer_of_followed (h : b.count = nextCount a.count) : (⟨some a, some b⟩ : Image α).newer = some .copy2 :=
  (if_neg (nextCount_asymm h)).trans (if_pos h)

theorem newer_of_apart (hab : a.count ≠ nextCount b.count) (hba : b.count ≠ nextCount a.count) :
    (⟨some a, some b⟩ : Image α).newer = some (if a.count < b.count then .copy2 else .copy1) :=
  ((if_neg hab).trans (if_neg hba)).trans (apply_ite some _ _ _).symm

end

theorem CopyName.other_ne (k : CopyName) : k.other ≠ k := by cases k <;> decide

section
variable {α : Type} {im : Image α}

theorem writeCopy_of_none (h : im.newer = none) : im.writeCopy = .copy1 := by rw [Image.writeCopy, h]

theorem writeCount_of_none (h : im.newer = none) : im.writeCount = 1 := by rw [Image.writeCount, h]

theorem writeCopy_of_newer {k : CopyName} (h : im.newer = some k) : im.writeCopy = k.other := by
  rw [Image.writeCopy, h]

theorem writeCount_of_newer {k : CopyName} {c : Copy α} (h : im.newer = some k) (hc : im.get k = some c) :
    im.writeCount = nextCount c.count := by
  simp only [Image.writeCount, h, hc]

end

/-- Settles O40: `follows` is `nextCount`, and each case is a branch of `Image.newer`. -/
theorem newerCopy : Obligations.NewerCopy := by
  intro α im a b follows im₁ im₂ both
  have hfollows {m n : Nat} (hn : n ≤ 4294967295) : m = nextCount n ↔ follows m n := eq_nextCount_iff hn m
  refine ⟨rfl, rfl, rfl, fun ha hb => ⟨fun h => ?_, fun h => ?_, fun hab hba => ?_⟩,
    fun h => ⟨writeCopy_of_none h, writeCount_of_none h⟩, fun k c h hc hcount => ⟨?_, ?_⟩⟩
  · exact newer_of_follows ((hfollows hb).2 h)
  · exact newer_of_followed ((hfollows ha).2 h)
  · exact newer_of_apart (mt (hfollows hb).1 hab) (mt (hfollows ha).1 hba)
  · rw [writeCopy_of_newer h]
    exact k.other_ne
  · exact (hfollows hcount).1 (writeCount_of_newer h hc)

/-! ### Save Settings (R168) -/

/-- A save is in progress while one waits or is written. -/
theorem saving_iff (x : Store) :
    x.saving = true ↔ (∃ st, Waiting.save st ∈ x.waiting) ∨ ∃ k c, x.writing = some (.save k c) := by
  unfold Store.saving
  rw [Bool.or_eq_true, List.any_eq_true]
  refine or_congr ⟨?_, ?_⟩ ⟨fun h => ?_, ?_⟩
  · rintro ⟨w, hw, hsave⟩
    cases w with
    | save st => exact ⟨st, hw⟩
    | retained => cases hsave
  · rintro ⟨st, hst⟩
    exact ⟨_, hst, rfl⟩
  · split at h
    · next k c hw => exact ⟨k, c, hw⟩
    · cases h
  · rintro ⟨k, c, hw⟩
    rw [hw]

theorem judgeSaveSettings_empty {q : Port} (hq : q ≠ .linkP) (s : State) :
    judgeSaveSettings q [] s = if s.store.saving then refuse .busy s else accept [] (queueSave s) := by
  have hpermitted : Request.saveSettings.permitted q = true := by
    cases q with
    | linkP => exact absurd rfl hq
    | linkS => rfl
    | service => rfl
  exact checked_passes hpermitted rfl (by cases q <;> rfl) _ s

theorem exec_saveSettings {q : Port} {station : Byte} {s : State} (h : Ready q station 0x52 [] s) :
    exec (.saveSettings q station []) s
      = .next (conclude s (takeRequest q station 0x52 (judgeSaveSettings q []) s)) :=
  congrArg (fun t => Host.Outcome.next (conclude s t)) (receiveRequest_ready h _)

/-- Settles O39: the request is judged by whether a save is in progress. -/
theorem settingsSaved : Obligations.SettingsSaved := by
  intro q station s hq hr saving
  have hsaving : s.store.saving = true ↔ saving := saving_iff s.store
  have hjudge := judgeSaveSettings_empty hq (toAnswering q s)
  rw [toAnswering_store] at hjudge
  rw [exec_saveSettings hr]
  constructor
  · intro h
    rw [if_pos (hsaving.2 h)] at hjudge
    rw [takeRequest_quiet hjudge, conclude_answered rfl rfl]
    rfl
  · intro h
    rw [if_neg (mt hsaving.1 h)] at hjudge
    rw [takeRequest_change (u := queueSave s) hjudge]
    rfl

/-! ### The start of a write (R168 to R170) -/

section
variable {s : State} {rest : List Waiting}

theorem startWrite_save {snapshot : Settings} (hfree : s.store.writing = none)
    (hfirst : s.store.waiting = .save snapshot :: rest) :
    startWrite s = { s with store := { s.store with waiting := rest }.beginSave snapshot } := by
  rw [startWrite, hfree, hfirst]

theorem startWrite_retained (hfree : s.store.writing = none) (hfirst : s.store.waiting = .retained :: rest) :
    startWrite s = { s with store := { s.store with waiting := rest }.beginRetained s.retained } := by
  rw [startWrite, hfree, hfirst]

theorem startWrite_idle (h : s.store.writing ≠ none ∨ s.store.waiting = []) : startWrite s = s := by
  rcases h with h | h
  · exact startWrite_busy h
  · have hstarts := startWrite_cases s
    generalize startWrite s = t at hstarts
    cases hstarts with
    | save st rest hfree hfirst => rw [h] at hfirst; cases hfirst
    | retained rest hfree hfirst => rw [h] at hfirst; cases hfirst
    | stays => rfl

theorem exec_saveWriteStart {snapshot : Settings} (hfirst : s.store.waiting = .save snapshot :: rest) :
    exec .saveWriteStart s = .next (startWrite s) := by
  simp only [exec, execSaveWriteStart, hfirst]

theorem exec_retainedWriteStart (hfirst : s.store.waiting = .retained :: rest) :
    exec .retainedWriteStart s = .next (startWrite s) := by
  simp only [exec, execRetainedWriteStart, hfirst]

/-- Where no write can start, neither start row changes anything (R170, log entry 8). -/
theorem exec_writeStarts_idle (h : s.store.writing ≠ none ∨ s.store.waiting = []) :
    exec .saveWriteStart s = .next s ∧ exec .retainedWriteStart s = .next s := by
  have hidle := startWrite_idle h
  simp only [exec, execSaveWriteStart, execRetainedWriteStart, hidle]
  constructor <;> split <;> rfl

/-- The store takes its first waiting write as the start row of that write does, or stays as it is (R170). -/
theorem startWrite_takes_first (s : State) :
    (s.store.waiting = [] ∧ startWrite s = s)
      ∨ (exec .saveWriteStart s = .next (startWrite s) ∧ ∃ w rest, s.store.waiting = .save w :: rest)
      ∨ (exec .retainedWriteStart s = .next (startWrite s) ∧ ∃ rest, s.store.waiting = .retained :: rest) := by
  cases hwaiting : s.store.waiting with
  | nil => exact .inl ⟨rfl, startWrite_idle (.inr hwaiting)⟩
  | cons w rest =>
    cases w with
    | save st => exact .inr (.inl ⟨exec_saveWriteStart hwaiting, st, rest, rfl⟩)
    | retained => exact .inr (.inr ⟨exec_retainedWriteStart hwaiting, rest, rfl⟩)

/-- A command that leaves `startWrite t` starts the first write that waits in `t`. -/
theorem started_of_exec {c : Instr} {s t : State} (h : exec c s = .next (startWrite t)) :
    (t.store.waiting = [] ∧ exec c s = .next t)
      ∨ (exec .saveWriteStart t = exec c s ∧ ∃ w rest, t.store.waiting = .save w :: rest)
      ∨ (exec .retainedWriteStart t = exec c s ∧ ∃ rest, t.store.waiting = .retained :: rest) := by
  rw [h]
  exact (startWrite_takes_first t).imp_left (fun ⟨hnone, hsame⟩ => ⟨hnone, congrArg _ hsame⟩)

end

/-! ### The completion of a write (R168, R169) -/

theorem exec_saveComplete {s : State} {k : CopyName} {c : Copy Settings} (h : s.store.writing = some (.save k c))
    (good : Bool) : exec (.saveComplete good) s = .next (startWrite (endSave k c good s)) := by
  simp only [exec, execSaveComplete, h]

theorem exec_retainedWriteComplete {s : State} {k : CopyName} {c : Copy Retained}
    (h : s.store.writing = some (.retained k c)) (good : Bool) :
    exec (.retainedWriteComplete good) s = .next (startWrite (endRetained k c good s)) := by
  simp only [exec, execRetainedWriteComplete, h]

/-- A retained write that does not match is marked again, unless a mark waits already (R169). -/
theorem endRetained_store (k : CopyName) (c : Copy Retained) (good : Bool) (s : State) :
    endRetained k c good s = { s with store :=
      { s.store with
        writing := none
        retainedImage := s.store.retainedImage.set k (if good then some c else none)
        retainedValid := good
        waiting := if good = true ∨ .retained ∈ s.store.waiting then s.store.waiting
          else s.store.waiting ++ [.retained] } } := by
  rw [endRetained_eq]
  cases good with
  | true => simp [retainedEnded]
  | false =>
    rw [if_neg Bool.false_ne_true, markRetained_eq]
    simp [retainedEnded]

/-- Settles O41: a start row is `startWrite`, and a completion is `startWrite` on the state with the write ended. -/
theorem storeWrites : Obligations.StoreWrites := by
  refine ⟨fun s => ?starts, fun s good k => ⟨fun c h => ?save, fun c h => ?retained⟩⟩
  case starts =>
    refine ⟨fun snapshot rest hfree hfirst => ?_, fun rest hfree hfirst => ⟨s.retained, fun p => ?_, rfl, ?_⟩,
      fun hidle => exec_writeStarts_idle hidle⟩
    · rw [exec_saveWriteStart hfirst, startWrite_save hfree hfirst]
      rfl
    · exact ⟨tabulate_get _ p, tabulate_get _ p⟩
    · rw [exec_retainedWriteStart hfirst, startWrite_retained hfree hfirst]
      rfl
  case save => exact started_of_exec (exec_saveComplete h good)
  case retained =>
    have hexec := exec_retainedWriteComplete h good
    rw [endRetained_store] at hexec
    exact started_of_exec hexec

end Sys2Proof.Machine
end

section
/-! PROOFS. The state after reset (R172), and that it has every law. -/

namespace Sys2Proof.Machine

/-- With both copies of both images blank the part starts with the defaults (R171). -/
theorem settled_defaults : settled Settings.defaults Retained.blank = Settings.defaults := by
  have hrole : (settled Settings.defaults Retained.blank).role = Settings.defaults.role :=
    vector_ext_get (fun p => by
      simp only [settled, Retained.keepsOpen, Retained.blank, Settings.defaults, tabulate_get, get_replicate]
      rfl)
  have hrest : settled Settings.defaults Retained.blank
    = { Settings.defaults with role := (settled Settings.defaults Retained.blank).role } := rfl
  rw [hrest, hrole]

theorem defaults_role (p : Pos) : Settings.defaults.role.get p = .switched := get_replicate _ p

/-- Every contact reads open. -/
theorem closed_zero (p : Pos) : Contacts.closed 0 p = false := by
  simp [Contacts.closed]

theorem startPosition_blank (p : Pos) : startPosition 0 Settings.defaults Retained.blank p = PosState.afterReset := by
  have hlatched : Retained.blank.latched.get p = none := get_replicate _ p
  have hlockout : Retained.blank.lockouts.get p = false := get_replicate _ p
  have hratio : Retained.blank.ratios.get p = 1024 := get_replicate _ p
  simp only [startPosition, startRecord, startHolds, startCondition, readContact, hlatched, hlockout, hratio,
    defaults_role, closed_zero]
  rfl

theorem closedPositions_zero (st : Settings) : closedPositions 0 st = [] :=
  List.eq_nil_iff_forall_not_mem.2 (fun p hp => by
    have hclosed := ((mem_closedPositions 0 st p).1 hp).2
    rw [closed_zero] at hclosed
    cases hclosed)

theorem startState_blank {s : State} (hpending : s.pending = [])
    (hsettings : s.store.settingsImage = ⟨none, none⟩) (hretained : s.store.retainedImage = ⟨none, none⟩) :
    startState 0 true false Settings.defaults Retained.blank s = State.reset := by
  have hpositions : tabulate (startPosition 0 Settings.defaults Retained.blank)
      = Vector.replicate 24 PosState.afterReset :=
    vector_ext_get (fun p => by rw [tabulate_get, get_replicate, startPosition_blank])
  have hstore : startStore s.store = State.reset.store := by
    simp only [startStore, Store.loadedRetained, hsettings, hretained]
    rfl
  rw [startState, hpending, hpositions, hstore]
  rfl

/-- RESET with nothing in the store, every contact open, the loop closed and the key OFF (log entry 9). -/
theorem startUp_blank {s : State} (hpending : s.pending = [])
    (hsettings : s.store.settingsImage = ⟨none, none⟩) (hretained : s.store.retainedImage = ⟨none, none⟩) :
    startUp 0 true false s = State.reset := by
  have hloaded : s.store.loadedSettings = Settings.defaults := by rw [Store.loadedSettings, hsettings]; rfl
  have hkept : s.store.loadedRetained = Retained.blank := by rw [Store.loadedRetained, hretained]; rfl
  have hqueue : reconciled 0 true false Settings.defaults Retained.blank s = State.reset := by
    rw [reconciled, closedPositions_zero, startState_blank hpending hsettings hretained]
    rfl
  rw [startUp, reconcileAll, takeTargets_eq_reconciled, hloaded, hkept, settled_defaults, hqueue]
  exact formBatch_none (.inr rfl)

/-! ### The laws of the state after reset -/

/-- RESET leaves the drive lawful, whatever the store and the inputs are (R106 to R110). -/
theorem driveLaws_startUp (c : Contacts) (loopClosed keyOn : Bool) (s : State) :
    DriveLaws (startUp c loopClosed keyOn s) := by
  rw [startUp, reconcileAll, takeTargets_eq_reconciled]
  exact (queueLaws_reconciled ..).driveLaws_formBatch

theorem reset_pos (p : Pos) : State.reset.pos p = PosState.afterReset := get_replicate _ p

theorem reset_role (p : Pos) : State.reset.role p = .switched := defaults_role p

theorem isolationLaws_reset : IsolationLaws State.reset :=
  (isolationLaws_iff _).2 (fun p => by
    rw [reset_role, reset_pos]
    exact lawful_cleared (fun h => absurd rfl h) rfl rfl rfl)

theorem recordsFormed_reset : RecordsFormed State.reset := fun p => by rw [reset_pos]; rfl

theorem safetyHeld_reset : SafetyHeld State.reset := fun p => by rw [reset_pos, reset_role]; rfl

/-- The state after reset is one that the start-up sequence leaves. -/
theorem startUp_reset : startUp 0 true false State.reset = State.reset := startUp_blank rfl rfl rfl

theorem driveLaws_reset : DriveLaws State.reset := startUp_reset ▸ driveLaws_startUp 0 true false State.reset

theorem ringLaws_reset : RingLaws State.reset := startUp_reset ▸ ring_startUp State.reset 0 true false

theorem walkLaws_reset : WalkLaws State.reset := Unlocated.walkLaws (fun p => by rw [reset_pos]; rfl) rfl

theorem storeLaws_reset : StoreLaws State.reset := ⟨fun _ => rfl, Nat.zero_le 1, Nat.zero_le 1⟩

theorem noticesBounded_reset : NoticesBounded State.reset := fun q => by cases q <;> exact Nat.zero_le _

theorem ratiosInRange_reset : RatiosInRange State.reset := by
  refine ⟨fun p => by rw [reset_pos]; rfl, fun p => ?_, fun k c h => ?_, nofun⟩
  · have hsnapshot : State.reset.store.ratioSnapshot.get p = 1024 := get_replicate _ p
    rw [hsnapshot]
    rfl
  · cases k <;> cases h

theorem settingsInRange_reset : SettingsInRange State.reset := by
  refine ⟨inRange_defaults, fun k c h => ?_, fun _ _ h => (by cases h), fun _ h => by cases h⟩
  cases k <;> cases h

/-- Settles O60: the start-up sequence on blank images leaves the state after reset, which has each law. -/
theorem stateAfterReset : Obligations.StateAfterReset :=
  ⟨fun _ hpending hsettings hretained => congrArg _ (startUp_blank hpending hsettings hretained),
    isolationLaws_reset, recordsFormed_reset, safetyHeld_reset, driveLaws_reset, ringLaws_reset, walkLaws_reset,
    storeLaws_reset, noticesBounded_reset, ratiosInRange_reset, settingsInRange_reset⟩

end Sys2Proof.Machine
end

section
/-! PROOFS. The queue of commands: a step takes its front (log entry 1), and every command answers a next state and leaves
the queue alone (log entries 4 and 15). -/

namespace Sys2Proof.Machine

/-- Settles O1: both clauses are the two branches of `step`. -/
theorem stepTakesFront : Obligations.StepTakesFront := by
  refine ⟨fun c rest s => rfl, fun s hempty => ?_⟩
  unfold step
  rw [hempty]

section
variable (s : State)

/-! ### Sweeps, the leakage alarm, the loop and the store -/

theorem takeLeakage_pending (l : Nat) : (takeLeakage l s).pending = s.pending := by
  obtain ⟨x, hx⟩ := acts_moveAlarm { s with leakage := { s.leakage with last := l } } l
  exact hx.pending

theorem handRoutine_pending (r : SweepRecord) (l : Nat) : (handRoutine r l s).pending = s.pending := by
  have hpositions := Acts.foldl _ (fun s p => acts_takePosition s r p) Pos.all (learn r s)
  exact (takeLeakage_pending _ l).trans hpositions.pending

theorem handOver_pending (r : SweepRecord) (run : Running) (l : Nat) : (handOver r run l s).pending = s.pending := by
  unfold handOver
  split
  · exact handRoutine_pending s r l
  · rfl
  · rfl
  · rfl
  · split
    · exact (acts_walkSweep s l).pending
    · rfl

theorem completeSweep_pending (r : SweepRecord) (run : Running) (l : Nat) :
    (completeSweep r run l s).pending = s.pending :=
  (startNext_pending _).trans (handOver_pending _ _ run l)

theorem trip_pending : (trip s).pending = s.pending :=
  (((acts_changeHolder (setSafety .tripped none false s) _ _ _ _).trans (acts_emit _ _ _ _ _)).trans
    (acts_abandonWalk _)).pending

theorem restore_pending : (restore s).pending = s.pending :=
  (((acts_changeHolder (setSafety .armed none true s) _ _ _ _).trans (acts_emit _ _ _ _ _)).trans
    (acts_reclosingAfter _ _ _ _ _)).pending

theorem endRetained_pending (k : CopyName) (c : Copy Retained) (good : Bool) :
    (endRetained k c good s).pending = s.pending := by
  rw [endRetained_store]

/-- RESET keeps the commands that wait: they come from outside the part. -/
theorem startUp_pending (c : Contacts) (loopClosed keyOn : Bool) : (startUp c loopClosed keyOn s).pending = s.pending :=
  ((acts_takeTargets (started s c loopClosed keyOn) _).trans (acts_formBatch _)).pending

theorem conclude_pending (s₀ : State) : (conclude s₀ s).pending = s.pending := by
  unfold conclude startWriteAfter
  split
  · exact (acts_formBatchAfter s s₀).pending
  · exact (startWrite_pending _).trans (acts_formBatchAfter s s₀).pending

/-! ### Settings written (R7 to R12, R167) -/

theorem applyIfIdle_pending (l : Link) : (applyIfIdle l s).pending = s.pending := by
  unfold applyIfIdle
  split <;> rfl

theorem changeRole_pending (c : Contacts) (p : Pos) (r : Role) : ∀ t ∈ changeRole c p r s, t.pending = s.pending := by
  intro t ht
  unfold changeRole at ht
  split at ht
  · split at ht
    · cases ht
    · cases ht
      exact (acts_leaveSwitching s p _).pending
  · cases ht
    exact (acts_enterSwitching c s p).pending
  · cases ht
    exact (acts_clearRecord _ p).pending

theorem afterNumber_pending (n : Number) (v : Nat) : (afterNumber n v s).pending = s.pending := by
  cases n with
  | stationP => exact applyIfIdle_pending s .p
  | stationS => exact applyIfIdle_pending s .s
  | _ => rfl

theorem changeSetting_pending (c : Contacts) (x : Setting) (v : Nat) :
    ∀ t ∈ changeSetting c x v s, t.pending = s.pending := by
  intro t ht
  cases x with
  | role p => exact changeRole_pending s c p _ t ht
  | number n => cases ht; exact afterNumber_pending _ n v
  | speed l => cases ht; exact applyIfIdle_pending _ l
  | _ => cases ht; rfl

theorem writeApplied_pending (c : Contacts) (code index : Byte) (x : Setting) (v : Nat) :
    (writeApplied c code index x v s).1.pending = s.pending := by
  unfold writeApplied
  split
  · rfl
  · split
    · next t ht => exact changeSetting_pending s c x v t ht
    · rfl

/-! ### Requests judged (R162) -/

variable {s} in
theorem checked_pending {r : Request} {q : Port} {ok : Bool} {f : State → Reply} (h : (f s).1.pending = s.pending) :
    (checked r q ok f s).1.pending = s.pending := by
  rcases checked_cases r q ok f s with he | ⟨he, -, -⟩
  · rw [he]
  · rw [he]; exact h

theorem holdRequest_pending (b : Bool) (q : Port) (body : List Byte) :
    (holdRequest b q body s).1.pending = s.pending := by
  unfold holdRequest
  split
  · rfl
  · exact (acts_changeHolds s _ _ _ _).pending

theorem judgeCode_pending (c : Contacts) (q : Port) (code : Byte) (body : List Byte) :
    (judgeCode c q code body s).1.pending = s.pending := by
  unfold judgeCode
  generalize Request.ofCode code = request
  cases request with
  | none => rfl
  | some r =>
    cases r with
    | readStatus => exact checked_pending rfl
    | readPosition => refine checked_pending ?_; split <;> rfl
    | readMap => exact checked_pending rfl
    | requestSweep =>
      refine checked_pending ?_
      split
      · rfl
      · split
        · rfl
        · exact startNext_pending _
    | pinSweep =>
      refine checked_pending ?_
      split
      · rfl
      · split
        · rfl
        · split <;> rfl
    | readSweep =>
      refine checked_pending ?_
      split
      · split <;> rfl
      · rfl
    | unpinSweep => refine checked_pending ?_; split <;> rfl
    | placeHold => exact checked_pending (holdRequest_pending s true q body)
    | releaseHold => exact checked_pending (holdRequest_pending s false q body)
    | clearFault =>
      refine checked_pending ?_
      split
      · exact (acts_clearFault s _).pending
      · rfl
    | clearSwitch =>
      refine checked_pending ?_
      split
      · exact (acts_clearSwitch s c _).pending
      · rfl
    | startLocate =>
      refine checked_pending ?_
      split
      · rfl
      · split
        · rfl
        · exact (acts_startWalk s _).pending
    | readWalk => exact checked_pending rfl
    | fetchNotices => exact checked_pending rfl
    | readSetting => refine checked_pending ?_; split <;> rfl
    | writeSetting =>
      refine checked_pending ?_
      split
      · exact writeApplied_pending s c _ _ _ _
      · rfl
    | saveSettings => refine checked_pending ?_; split <;> rfl
    | resetRatio => refine checked_pending ?_; split <;> rfl

/-! ### Requests taken, as frames and by the character (R158, R160) -/

theorem judgeFrame_pending (q : Port) (station code : Byte) {f : State → Reply}
    (h : ∀ s, (f s).1.pending = s.pending) : (judgeFrame q station code f s).pending = s.pending := by
  unfold judgeFrame
  split
  · exact h (toAnswering q s)
  · rfl

theorem receiveRequest_pending (q : Port) (station code : Byte) (body : List Byte) {f : State → Reply}
    (h : ∀ s, (f s).1.pending = s.pending) : (receiveRequest q station code body f s).pending = s.pending := by
  unfold receiveRequest
  split
  · exact judgeFrame_pending s q station code h
  · rfl

theorem takeChars_pending (c : Contacts) (q : Port) (chars : List Byte) :
    (takeChars c q chars s).pending = s.pending := by
  unfold takeChars judgeChars
  split
  · split <;> rfl
  · split
    · split
      · exact judgeFrame_pending s q _ _ (fun s => judgeCode_pending s c q _ _)
      · rfl
    · rfl

theorem takeChar_pending (c : Contacts) (q : Port) (char : Byte) : (takeChar c q char s).pending = s.pending := by
  unfold takeChar
  split
  · split <;> rfl
  · exact takeChars_pending s c q _
  · rfl

theorem discardFrame_pending (q : Port) : (discardFrame q s).pending = s.pending := by
  unfold discardFrame
  split <;> rfl

end

/-! ### Every command -/

/-- An outcome of a command taken in `s` is a next state, with the queue of commands as it was. -/
def Completes (s : State) (o : Host.Outcome State Fault Refusal) : Prop := ∃ t, o = .next t ∧ t.pending = s.pending

theorem Completes.next {s t : State} (h : t.pending = s.pending) : Completes s (.next t) := ⟨t, rfl, h⟩

/-- A command whose event cannot come about changes nothing (log entry 4). -/
theorem Completes.stay (s : State) : Completes s (.next s) := .next rfl

theorem Completes.concluded {s t : State} (h : t.pending = s.pending) : Completes s (.next (conclude s t)) :=
  .next ((conclude_pending t s).trans h)

theorem Completes.ite {s : State} {c : Prop} [Decidable c] {o o' : Host.Outcome State Fault Refusal}
    (h : Completes s o) (h' : Completes s o') : Completes s (if c then o else o') := by
  split
  · exact h
  · exact h'

/-- Every request row completes: it is its frame judged by its Code. -/
theorem completes_request {c : Instr} {f : RequestFrame} (h : requestOf c = some f) (s : State) :
    Completes s (exec c s) := by
  have hreceive := receiveRequest_pending s f.port f.station f.code f.body
    (fun s => judgeCode_pending s f.contacts f.port f.code f.body)
  rcases exec_request h s with he | he
  · rw [he]; exact .next hreceive
  · rw [he]; exact .concluded hreceive

/-- Every command that is no request row completes. -/
theorem completes_event {c : Instr} (h : requestOf c = none) (s : State) : Completes s (exec c s) := by
  cases c with
  | frameDiscarded => exact .ite (.next rfl) (.stay s)
  | lengthDiscard => exact .ite (.next rfl) (.stay s)
  | characterGapTimeout q => exact .next (discardFrame_pending s q)
  | characterError q => exact .next (discardFrame_pending s q)
  | answerSent =>
    simp only [exec, execAnswerSent]
    split
    · exact .next rfl
    · exact .stay s
    · exact .stay s
  | reset c loopClosed keyOn => exact .next (startUp_pending s c loopClosed keyOn)
  | loopOpening =>
    simp only [exec, execLoopOpening]
    split
    · exact .concluded (trip_pending s)
    · exact .next rfl
    · exact .stay s
  | loopClosing =>
    simp only [exec, execLoopClosing]
    split
    · exact .next rfl
    · exact .stay s
    · exact .stay s
  | restoreTimerExpiry =>
    simp only [exec, execRestoreTimerExpiry]
    split
    · exact .concluded (restore_pending _)
    · exact .stay s
  | keyChange => exact .next rfl
  | routineTimerExpiry => exact .ite (.next rfl) (.next (startNext_pending _))
  | sweepStart => exact .next (startNext_pending s)
  | channelBurstComplete =>
    simp only [exec, execChannelBurstComplete]
    split
    · exact .ite (.next rfl) (.stay s)
    · exact .stay s
  | sweepComplete =>
    simp only [exec, execSweepComplete]
    split
    · exact .ite (.concluded (completeSweep_pending s _ _ _)) (.stay s)
    · exact .stay s
  | declaration p c => exact .ite (.concluded (acts_countAbnormal s p c).pending) (.stay s)
  | suspicionAbandoned p => exact .ite (.next (acts_holdSuspicion s p).pending) (.stay s)
  | recheckTimerExpiry p => exact .ite (.concluded (acts_recheckExpired s p).pending) (.stay s)
  | trialSuccess p => exact .ite (.next (acts_confirmTrial s p).pending) (.stay s)
  | reportedRecovery p => exact .ite (.next (acts_confirmRecovery s p).pending) (.stay s)
  | residualDebounceReached p => exact .ite (.concluded (acts_countResidual s p).pending) (.stay s)
  | leakageAlarmEntry => exact .ite (.next (takeLeakage_pending s _)) (.stay s)
  | leakageAlarmClear => exact .ite (.next (takeLeakage_pending s _)) (.stay s)
  | settleTimerExpiry =>
    simp only [exec, execSettleTimerExpiry]
    split
    · exact .next (acts_requestLocate _).pending
    · exact .stay s
  | batchStart => exact .next (acts_formBatch s).pending
  | bypassSettleExpiry =>
    simp only [exec, execBypassSettleExpiry]
    split
    · exact .ite (.next rfl) (.stay s)
    · exact .stay s
  | coilPulseEnd =>
    simp only [exec, execCoilPulseEnd]
    split
    · exact .ite (.next rfl) (.ite (.next rfl) (.stay s))
    · exact .stay s
  | nonOverlapExpiry =>
    simp only [exec, execNonOverlapExpiry]
    split
    · exact .ite (.next rfl) (.stay s)
    · exact .stay s
  | batchCompletion c =>
    simp only [exec, execBatchCompletion]
    split
    · exact .ite (.concluded (acts_completeBatch _ c _).pending) (.stay s)
    · exact .stay s
  | hourlyRatioMark => exact .concluded (markRetained_pending _)
  | saveWriteStart =>
    simp only [exec, execSaveWriteStart]
    split
    · exact .next (startWrite_pending s)
    · exact .stay s
  | saveComplete =>
    simp only [exec, execSaveComplete]
    split
    · exact .next (startWrite_pending _)
    · exact .stay s
  | retainedWriteStart =>
    simp only [exec, execRetainedWriteStart]
    split
    · exact .next (startWrite_pending s)
    · exact .stay s
  | retainedWriteComplete =>
    simp only [exec, execRetainedWriteComplete]
    split
    · exact .next ((startWrite_pending _).trans (endRetained_pending s _ _ _))
    · exact .stay s
  | characterReceived q char c => exact .concluded (takeChar_pending s c q char)
  | unknownRequestCode q station code body =>
    exact .ite (.stay s) (.next (receiveRequest_pending s q station code body (fun _ => rfl)))
  | _ => cases h

/-- Settles O2: request rows and all other commands complete. -/
theorem everyCommandCompletes : Obligations.EveryCommandCompletes := by
  intro c s
  cases hc : requestOf c with
  | some f => exact completes_request hc s
  | none => exact completes_event hc s

end Sys2Proof.Machine
end
